-- ==== Sys2Proof/Word.lean ====
section
/-! DEFINITION. The two word types of the framer: the byte of every stream (R41) and the 32-bit measurement
word (R20). -/

namespace Sys2Proof

/-- The unit of every transfer, 8 bits (R6, R41). -/
abbrev Byte := BitVec 8

/-- A measurement word, 32 bits, never computed with (R20, R128). -/
abbrev Word := BitVec 32

end Sys2Proof
end

