-- ==== Sys2Proof/Config.lean ====
section
/-! DEFINITION. What the spec leaves to an implementation: the two OPEN parameters of R4, which have no value here
(log entry 13), and the transport's configuration, which lies outside the block and which no rule reads. -/

namespace Sys2Proof

/-- The host-visible registers of R12, by name (R53: rules name registers, never addresses). -/
inductive HostReg where
  | op | phase | rkind | fallback
  | meas (i : Fin 10)
  | str (i : Fin 17)
  | strlen | vmaj | vmin
  deriving DecidableEq, Repr

/-- REGMAP (R4, R53, D28): the bus address of a host-visible register. OPEN: it has no body, so nothing can be
proved about an address; no rule reads it. -/
opaque Config.regmap : HostReg → Nat

/-- READ_TIMEOUT in milliseconds (R4, R262, D31): "about 2000 ms, OPEN", enforced by the transport. It has no
body; no rule reads it. -/
opaque Config.readTimeoutMs : Nat

/-- BAUD (R4, R217): transport configuration, outside the block, "configuration, not protocol-mandated". -/
def Config.baud : Nat := 115200

/-- LINE_FORMAT (R4, R217): 8 data bits, no parity bit, 1 stop bit; outside the block. -/
def Config.lineFormat : Nat × Nat × Nat := (8, 0, 1)

end Sys2Proof
end

