-- ==== Sys2Proof/Machine/Params.lean ====
section
/-! DEFINITION. The fixed parameters of R4 (the two OPEN ones are in Config). -/

namespace Sys2Proof.Machine

/-- ADDR, the address byte of every outbound frame. -/
def addr : Byte := 0x00

/-- SOF and EOF, the start and stop marker. -/
def marker : Byte := 0x7E

/-- ESC_BYTE, the first byte of every escape sequence. -/
def escByte : Byte := 0x7D

/-- N_MEAS, logical length of the measurement response. -/
abbrev nMeas : Nat := 47

/-- N_INFO, logical length of a device-information response. -/
abbrev nInfo : Nat := 24

/-- N_FW, logical length of the firmware-version response. -/
abbrev nFw : Nat := 14

/-- HDR, header bytes sliced off a response. -/
abbrev hdr : Nat := 5

/-- TRL, trailer bytes sliced off a response. -/
abbrev trl : Nat := 2

/-- P_MEAS, the measurement payload's bytes. -/
abbrev pMeas : Nat := 40

/-- P_INFO, the device-information payload's bytes, also the capacity of STR. -/
abbrev pInfo : Nat := 17

/-- P_FW, the firmware payload's bytes. -/
abbrev pFw : Nat := 7

/-- MAX_DATA, the largest data field of an outbound frame (D19). -/
abbrev maxData : Nat := 255

end Sys2Proof.Machine
end

