-- ==== Sys2Proof/Machine/Flags.lean ====
section
/-! DEFINITION. The two flags of the framer, each computed in one place: ESC (R17) and FALLBACK (R16). -/

namespace Sys2Proof.Machine

/-- ESC after a raw byte has been stored (R119): set exactly when that byte is 0x7D. -/
def escAfter (b : Byte) : Bool := b == escByte

/-- FALLBACK for a measurement payload (R16, R123): set exactly when it is not 40 bytes. -/
def fallbackFlag (p : List Byte) : Bool := p.length != pMeas

end Sys2Proof.Machine
end

