-- ==== Sys2Proof/Machine/Codec.lean ====
section
/-! DEFINITION. The Frame Codec (40_frame_codec.md): pure functions over byte sequences. -/

namespace Sys2Proof.Machine

/-- `esc(b)` of R72: the second byte of the escape sequence of a reserved byte, none for a byte outside the table. -/
def esc (b : Byte) : Option Byte :=
  if b = 0x7E then some 0x5E
  else if b = 0x7D then some 0x5D
  else if b = 0x11 then some 0x31
  else if b = 0x13 then some 0x33
  else none

/-- `unesc(c)` of R72: the original of an escape sequence, by its second byte. -/
def unesc (c : Byte) : Option Byte :=
  if c = 0x5E then some 0x7E
  else if c = 0x5D then some 0x7D
  else if c = 0x31 then some 0x11
  else if c = 0x33 then some 0x13
  else none

/-- `Checksum(s)`, R110: complement of the low byte of the unbounded sum. -/
def checksum (s : List Byte) : Byte := ~~~ (BitVec.ofNat 8 (s.map BitVec.toNat).sum)

/-- `ForwardStuff(s)`, R111. -/
def forwardStuff : List Byte → List Byte
  | [] => []
  | b :: t =>
    match esc b with
    | some c => escByte :: c :: forwardStuff t
    | none => b :: forwardStuff t

/-- `BuildFrame(command, subcommand, args)`, R112; none where the data field exceeds 255 bytes (D19: refused). -/
def buildFrame (command : Byte) (subcommand : Option Byte) (args : List Byte) : Option (List Byte) :=
  let data := subcommand.toList ++ args
  if data.length ≤ maxData then
    let body := [addr, command, BitVec.ofNat 8 data.length] ++ data
    some ([marker] ++ forwardStuff (body ++ [checksum body]) ++ [marker])
  else none

/-- `ReverseStuffing(raw)`, R114: one pass from left to right; a lone 0x7D is kept and the byte after it is examined
afresh. The four-pass reading of R116 is not taken (C1). -/
def reverseStuffing : List Byte → List Byte
  | [] => []
  | [b] => [b]
  | b :: c :: t =>
    if b = escByte then
      match unesc c with
      | some o => o :: reverseStuffing t
      | none => b :: reverseStuffing (c :: t)
    else b :: reverseStuffing (c :: t)

/-- The result of `VerifyChecksum`: R121 gives it one value. -/
inductive CheckResult where
  | pass
  deriving DecidableEq, Repr

/-- `VerifyChecksum(f)`, R121: the named no-op step; it reads nothing and always passes. -/
def verifyChecksum (_f : List Byte) : CheckResult := .pass

/-- `ExtractPayload(f)`, R122: `f[5 : |f| - 2]`, empty for fewer than 7 bytes (D14). -/
def extractPayload (f : List Byte) : List Byte :=
  if hdr + trl ≤ f.length then (f.drop hdr).take (f.length - hdr - trl) else []

/-- `be32(b0, b1, b2, b3)` of R6: the first byte is the most significant (R43). -/
def be32 (b0 b1 b2 b3 : Byte) : Word :=
  BitVec.ofNat 32 (b0.toNat * 2 ^ 24 + b1.toNat * 2 ^ 16 + b2.toNat * 2 ^ 8 + b3.toNat)

/-- Measurement word `i` of a payload (R76): `be32` of the bytes `4i` to `4i+3`. -/
def measWord (p : List Byte) (i : Nat) : Word :=
  be32 (p.getD (4 * i) 0) (p.getD (4 * i + 1) 0) (p.getD (4 * i + 2) 0) (p.getD (4 * i + 3) 0)

/-- The all-zero Measurement Tuple of the fallback (R123). -/
def zeroTuple : Vector Word 10 := Vector.replicate 10 0

/-- `DecodeMeasurement(p)`, R123: ten words and the fallback tag; it never fails. -/
def decodeMeasurement (p : List Byte) : Vector Word 10 × Bool :=
  if fallbackFlag p then (zeroTuple, true)
  else
    (#v[measWord p 0, measWord p 1, measWord p 2, measWord p 3, measWord p 4,
        measWord p 5, measWord p 6, measWord p 7, measWord p 8, measWord p 9], false)

/-- `DecodeAscii(p)`, R124: the payload itself, or none for the DecodeError of a byte above 0x7F. Nothing is
trimmed (D15). -/
def decodeAscii (p : List Byte) : Option (List Byte) :=
  if p.all (fun b => b ≤ 0x7F#8) then some p else none

/-- `sext_8(b)` of R6: two's complement (G5). -/
def sext8 (b : Byte) : Int := b.toInt

/-- `DecodeFirmware(p)`, R125: the first two of exactly seven signed bytes, or none for the DecodeError. -/
def decodeFirmware (p : List Byte) : Option (Int × Int) :=
  if p.length = pFw then some (sext8 (p.getD 0 0), sext8 (p.getD 1 0)) else none

/-- The decimal digits of `n` written before `acc`; `fuel` bounds the number of digits. -/
def digitsAcc : Nat → Nat → List Byte → List Byte
  | 0, _, acc => acc
  | fuel + 1, n, acc =>
    let acc' := BitVec.ofNat 8 (0x30 + n % 10) :: acc
    if n / 10 = 0 then acc' else digitsAcc fuel (n / 10) acc'

/-- `Digits(n)` of R126: decimal, most significant first, no leading zeros, "0" for 0. -/
def digits (n : Nat) : List Byte := digitsAcc (n + 1) n []

/-- `Dec(v)` of R126: "-" before the digits of a negative number. -/
def dec (v : Int) : List Byte := if v < 0 then 0x2D :: digits v.natAbs else digits v.natAbs

/-- `FormatVersion(major, minor)`, R126: ASCII characters, "." between the two numbers. -/
def formatVersion (major minor : Int) : List Byte := dec major ++ [0x2E] ++ dec minor

end Sys2Proof.Machine
end

