-- ==== Sys2Proof/Machine/Operands.lean ====
section
/-! DEFINITION. The operands of the six operations: none comes from state (R23), all stand in the Command
Descriptor table of R80, a constant that nothing can write (D29). Host codes: R81. -/

namespace Sys2Proof.Machine

/-- The six operations, the values OP can hold (R13). -/
inductive Op where
  | start | stop | readValues | readProductType | readSerialNumber | readFirmwareVersion
  deriving DecidableEq, Repr

/-- The decode kind of a reading operation (R80, R127). -/
inductive Kind where
  | measurement | ascii | firmware
  deriving DecidableEq, Repr

/-- What a reading operation expects: the logical length N and the decode kind (R80). -/
structure Response where
  n : Nat
  kind : Kind
  deriving DecidableEq, Repr

/-- A Command Descriptor, in the four-component form (C13). -/
structure Descriptor where
  cmd : Byte
  subcommand : Option Byte
  args : List Byte
  response : Option Response
  deriving DecidableEq, Repr

/-- The descriptor table, R80. -/
def descriptor : Op → Descriptor
  | .start => ⟨0x00, some 0x01, [0x03], none⟩
  | .stop => ⟨0x01, none, [], none⟩
  | .readValues => ⟨0x03, none, [], some ⟨nMeas, .measurement⟩⟩
  | .readProductType => ⟨0xD0, some 0x01, [], some ⟨nInfo, .ascii⟩⟩
  | .readSerialNumber => ⟨0xD0, some 0x03, [], some ⟨nInfo, .ascii⟩⟩
  | .readFirmwareVersion => ⟨0xD1, none, [], some ⟨nFw, .firmware⟩⟩

/-- The response an operation waits for, none for START and STOP. -/
def Op.response (op : Op) : Option Response := (descriptor op).response

/-- The host code of an operation, the value OP shows (R81). -/
def Op.code : Op → BitVec 3
  | .start => 0
  | .stop => 1
  | .readValues => 2
  | .readProductType => 3
  | .readSerialNumber => 4
  | .readFirmwareVersion => 5

/-- The operation a host code selects; none for the reserved codes 6 and 7 (R85). -/
def opOfCode (c : BitVec 3) : Option Op :=
  if c = 0 then some .start
  else if c = 1 then some .stop
  else if c = 2 then some .readValues
  else if c = 3 then some .readProductType
  else if c = 4 then some .readSerialNumber
  else if c = 5 then some .readFirmwareVersion
  else none

end Sys2Proof.Machine
end

