-- ==== Sys2Proof/Syntax.lean ====
section
/-! DEFINITION. The instruction set: one constructor per row of spec/opcode_table.json. The six operations and the
two reserved host codes take no operands (R23); a response row carries its logical bytes, none of which the format
fixes (the table's mask is 0); an escape row is its two bytes. -/

namespace Sys2Proof

inductive Instr where
  /-- START, host code 0 (R160). -/
  | start
  /-- STOP, host code 1 (R161). -/
  | stop
  /-- READ_VALUES, host code 2 (R162). -/
  | readValues
  /-- READ_PRODUCT_TYPE, host code 3 (R163). -/
  | readProductType
  /-- READ_SERIAL_NUMBER, host code 4 (R164). -/
  | readSerialNumber
  /-- READ_FIRMWARE_VERSION, host code 5 (R165). -/
  | readFirmwareVersion
  /-- RESERVED_OP_6, host code 6 (R85, R157). -/
  | reservedOp6
  /-- RESERVED_OP_7, host code 7 (R85, R157). -/
  | reservedOp7
  /-- RESP_MEASUREMENT, the 47 logical bytes of a measurement response (R76). -/
  | respMeasurement (f : List Byte)
  /-- RESP_DEVICE_INFO, the 24 logical bytes of a device-information response (R77). -/
  | respDeviceInfo (f : List Byte)
  /-- RESP_FIRMWARE, the 14 logical bytes of a firmware-version response (R78). -/
  | respFirmware (f : List Byte)
  /-- ESC_7E, the escape sequence 7D 5E (R72). -/
  | esc7E
  /-- ESC_7D, the escape sequence 7D 5D (R72). -/
  | esc7D
  /-- ESC_11, the escape sequence 7D 31 (R72). -/
  | esc11
  /-- ESC_13, the escape sequence 7D 33 (R72). -/
  | esc13
  deriving DecidableEq, Repr

end Sys2Proof
end

