-- ==== Sys2Proof/WellFormed.lean ====
section
/-! DEFINITION. When an instruction term stands for words of the table: a response row has exactly the logical
length N of its format (R76, R77, R78). Nothing else is checked, because the framer examines no other byte (R86). -/

namespace Sys2Proof

/-- The instruction's operand has the length its format fixes. -/
def WellFormed : Instr → Bool
  | .start | .stop | .readValues | .readProductType | .readSerialNumber | .readFirmwareVersion => true
  | .reservedOp6 | .reservedOp7 => true
  | .respMeasurement f => f.length == 47
  | .respDeviceInfo f => f.length == 24
  | .respFirmware f => f.length == 14
  | .esc7E | .esc7D | .esc11 | .esc13 => true

end Sys2Proof
end

