-- ==== Sys2Proof/Decode.lean ====
section
/-! DEFINITION. Decoding and encoding of the table's words. An instruction's image is a byte sequence; the four
formats of spec/opcode_table.json have images of different lengths, so the length alone tells them apart (log entry
8): 1 byte is a host code (HOSTOP, R81), 2 an escape sequence (ESC, R72), 14, 24 or 47 the logical bytes of a
response (MISO, R76 to R78), every other length a command frame as on the wire (MOSI, R70). -/

namespace Sys2Proof

open Sys2Proof.Machine

/-- Why an image is no instruction of the table. -/
inductive DecodeReject where
  /-- a host code byte that does not fit in 3 bits (R81) -/
  | hostCodeTooWide
  /-- two bytes that are no row of the escape table (R72) -/
  | notAnEscape
  /-- a command frame whose first byte is not 0x7E (R70) -/
  | noStartMarker
  /-- a command frame whose last byte is not 0x7E (R70) -/
  | noStopMarker
  /-- fewer bytes between the markers than ADDR, CMD and LEN (R70) -/
  | frameTooShort
  /-- ADDR is not 0x00 (R70) -/
  | badAddress
  /-- LEN is not the number of data bytes (R70) -/
  | lengthMismatch
  /-- CHK is not the checksum of ADDR, CMD, LEN and DATA (R74) -/
  | badChecksum
  /-- CMD and DATA are no row of the descriptor table (R80, R84) -/
  | unknownCommand
  deriving DecidableEq, Repr

/-- The table's row of a host code (R81, R85). -/
def instrOfCode (c : BitVec 3) : Instr :=
  if c = 0 then .start
  else if c = 1 then .stop
  else if c = 2 then .readValues
  else if c = 3 then .readProductType
  else if c = 4 then .readSerialNumber
  else if c = 5 then .readFirmwareVersion
  else if c = 6 then .reservedOp6
  else .reservedOp7

/-- A host code in its byte. -/
def decodeHostCode (b : Byte) : Except DecodeReject Instr :=
  if b.toNat < 8 then .ok (instrOfCode (b.setWidth 3)) else .error .hostCodeTooWide

/-- The two bytes of an escape sequence, by the rows of R72. -/
def decodeEscape (b c : Byte) : Except DecodeReject Instr :=
  if b = 0x7D ∧ c = 0x5E then .ok .esc7E
  else if b = 0x7D ∧ c = 0x5D then .ok .esc7D
  else if b = 0x7D ∧ c = 0x31 then .ok .esc11
  else if b = 0x7D ∧ c = 0x33 then .ok .esc13
  else .error .notAnEscape

/-- The operation whose descriptor has this command byte and this data field (R80, R82). -/
def decodeCommand (c : Byte) (data : List Byte) : Except DecodeReject Instr :=
  if c = 0x00 ∧ data = [0x01, 0x03] then .ok .start
  else if c = 0x01 ∧ data = [] then .ok .stop
  else if c = 0x03 ∧ data = [] then .ok .readValues
  else if c = 0xD0 ∧ data = [0x01] then .ok .readProductType
  else if c = 0xD0 ∧ data = [0x03] then .ok .readSerialNumber
  else if c = 0xD1 ∧ data = [] then .ok .readFirmwareVersion
  else .error .unknownCommand

/-- The unstuffed bytes between the markers of a command frame, field by field (R70). -/
def decodeBody : List Byte → Except DecodeReject Instr
  | a :: c :: len :: rest =>
    if a ≠ addr then .error .badAddress
    else if rest.length ≠ len.toNat + 1 then .error .lengthMismatch
    else if rest.getLast? ≠ some (checksum (a :: c :: len :: rest.dropLast)) then .error .badChecksum
    else decodeCommand c rest.dropLast
  | _ => .error .frameTooShort

/-- A command frame as on the wire (R70, R71): markers, then the body with stuffing reversed. -/
def decodeFrame : List Byte → Except DecodeReject Instr
  | [] => .error .noStartMarker
  | b :: t =>
    if b ≠ marker then .error .noStartMarker
    else if t.getLast? ≠ some marker then .error .noStopMarker
    else decodeBody (reverseStuffing t.dropLast)

/-- The decoder, total on any byte sequence. -/
def decode (w : List Byte) : Except DecodeReject Instr :=
  match w with
  | [b] => decodeHostCode b
  | [b, c] => decodeEscape b c
  | _ =>
    if w.length = nMeas then .ok (.respMeasurement w)
    else if w.length = nInfo then .ok (.respDeviceInfo w)
    else if w.length = nFw then .ok (.respFirmware w)
    else decodeFrame w

/-- The encoder: the six frames of R83, the reserved host codes of R85, the logical bytes of a response (R76 to
R78), the escape rows of R72. -/
def encode : Instr → List Byte
  | .start => [0x7E, 0x00, 0x00, 0x02, 0x01, 0x03, 0xF9, 0x7E]
  | .stop => [0x7E, 0x00, 0x01, 0x00, 0xFE, 0x7E]
  | .readValues => [0x7E, 0x00, 0x03, 0x00, 0xFC, 0x7E]
  | .readProductType => [0x7E, 0x00, 0xD0, 0x01, 0x01, 0x2D, 0x7E]
  | .readSerialNumber => [0x7E, 0x00, 0xD0, 0x01, 0x03, 0x2B, 0x7E]
  | .readFirmwareVersion => [0x7E, 0x00, 0xD1, 0x00, 0x2E, 0x7E]
  | .reservedOp6 => [0x06]
  | .reservedOp7 => [0x07]
  | .respMeasurement f => f
  | .respDeviceInfo f => f
  | .respFirmware f => f
  | .esc7E => [0x7D, 0x5E]
  | .esc7D => [0x7D, 0x5D]
  | .esc11 => [0x7D, 0x31]
  | .esc13 => [0x7D, 0x33]

/-- The host code of an instruction, where it has one (R81, R85). -/
def hostCode : Instr → Option (BitVec 3)
  | .start => some 0
  | .stop => some 1
  | .readValues => some 2
  | .readProductType => some 3
  | .readSerialNumber => some 4
  | .readFirmwareVersion => some 5
  | .reservedOp6 => some 6
  | .reservedOp7 => some 7
  | .respMeasurement _ | .respDeviceInfo _ | .respFirmware _ => none
  | .esc7E | .esc7D | .esc11 | .esc13 => none

/-- `n` bytes of the number `w`, the most significant first: the table's "first byte on the wire is the most
significant byte of match". -/
def bytesOfNat : Nat → Nat → List Byte
  | 0, _ => []
  | n + 1, w => BitVec.ofNat 8 (w / 256 ^ n) :: bytesOfNat n w

/-- The image the table's `nbits` bits `w` stand for, in whole bytes. -/
def imageOfTable (nbits w : Nat) : List Byte := bytesOfNat ((nbits + 7) / 8) w

/-- The instruction the decoder reads from the table's bits `w`. -/
def decodeTableWord (nbits w : Nat) : Option Instr :=
  match decode (imageOfTable nbits w) with
  | .ok i => some i
  | .error _ => none

end Sys2Proof
end

