-- ==== Sys2Proof/Machine/State.lean ====
section
/-! DEFINITION. The state of the framer (R12), the environment state of its transport (R45), the events still to
come (R11, log entry 1), the outcomes a step can have beside a next state, and the state after reset (R31). -/

namespace Sys2Proof.Machine

/-- PHASE, R14. -/
inductive Phase where
  | idle | requestSent | responseComplete | timedOut
  deriving DecidableEq, Repr

/-- RKIND, R15; the reserved codes 6 and 7 are never written. -/
inductive ResultKind where
  | noResult | measurement | string | version | timeout | decodeError
  deriving DecidableEq, Repr

/-- An event of R11, or an instruction of the table placed by its image (log entries 1 and 8). -/
inductive Event where
  /-- `Issue(op)`, by its 3-bit host code (R155, R81). -/
  | issue (code : BitVec 3)
  /-- An instruction of the table, as the bytes of its row. -/
  | image (bytes : List Byte)
  /-- `RxByte`, of the byte at the head of T.rxq (R152). -/
  | rxByte
  /-- `RxTimeout` (R153). -/
  | rxTimeout
  /-- `SensorAppend(s)` (R46). -/
  | sensorAppend (s : List Byte)
  /-- `Reset` (R31). -/
  | reset
  deriving DecidableEq, Repr

/-- The faults are the model's own (log entry 9), not the hardware's: each stops in a state that R26 says no run
reaches. All are safe: nothing can be proved about what follows. -/
inductive Fault where
  /-- Raised by RxByte (R152) in REQUEST_SENT under START or STOP, which have no N. Safe. -/
  | noResponseExpected
  /-- Raised by RxByte (R152) when COUNT is not below N, the precondition of R119. Safe. -/
  | countPastEnd
  /-- Raised by DestuffStep (R119) when ESC is set and COUNT is 0, so that there is no RXBUF[COUNT-1]. Safe. -/
  | escapeBeforeFirstByte
  deriving DecidableEq, Repr

/-- What the model refuses, by name. -/
inductive Refusal where
  /-- An instruction without a meaning; no arm of exec raises it. Safe. -/
  | notModelled (mnemonic : String)
  /-- Raised by the step on an RxByte event that R11 does not enable ("do not exist", log entry 5). Safe. -/
  | rxByteNotEnabled
  /-- Raised by the step on an RxTimeout event that R11 does not enable ("do not exist", log entry 5). Safe. -/
  | rxTimeoutNotEnabled
  /-- Raised by the step on an image that is no row of the table (log entry 8). Safe. -/
  | undecodable (why : DecodeReject)
  /-- Raised by Issue when BuildFrame refuses a data field (R112, D19); no descriptor has one. Safe. -/
  | dataFieldTooLong
  /-- Raised by DecodePayload on a string of more than 17 bytes (R127 `require`); no response has one. Safe. -/
  | stringTooLong
  deriving DecidableEq, Repr

/-- The whole machine: R12, R45, and two fields of the model's own. -/
structure State where
  /-- OP, the operation last issued (R13). -/
  op : Op
  /-- PHASE (R14). -/
  phase : Phase
  /-- RKIND (R15). -/
  rkind : ResultKind
  /-- FALLBACK (R16). -/
  fallback : Bool
  /-- ESC, the escape-pending flag (R17). -/
  esc : Bool
  /-- COUNT, logical bytes accumulated, 0 to 47 (R18). -/
  count : Nat
  /-- RXBUF[0..46] (R19). -/
  rxbuf : Vector Byte 47
  /-- MEAS[0..9] (R20). -/
  meas : Vector Word 10
  /-- STR[0..16] (R21). -/
  str : Vector Byte 17
  /-- STRLEN, 5 bits (R21). -/
  strlen : BitVec 5
  /-- VMAJ, a signed byte (R22). -/
  vmaj : BitVec 8
  /-- VMIN, a signed byte (R22). -/
  vmin : BitVec 8
  /-- T.rxq, what the transport has received and not handed over (R45). -/
  rxq : List Byte
  /-- T.txlog, every byte the framer has submitted (R45). -/
  txlog : List Byte
  /-- The model's own: the events still to come, first to happen first (log entry 1). -/
  events : List Event
  /-- The model's own: the codes of the refused Issues, oldest first (R221, log entry 4). -/
  refusedIssues : List (BitVec 3)
  deriving DecidableEq, Repr

/-- The state after Reset (R31), with the transport's two sequences empty (unspecified there, log entry 2) and no
event placed (log entry 3). -/
def State.reset : State where
  op := .start
  phase := .idle
  rkind := .noResult
  fallback := false
  esc := false
  count := 0
  rxbuf := Vector.replicate 47 0
  meas := Vector.replicate 10 0
  str := Vector.replicate 17 0
  strlen := 0
  vmaj := 0
  vmin := 0
  rxq := []
  txlog := []
  events := []
  refusedIssues := []

end Sys2Proof.Machine
end

