-- ==== Sys2Proof/Machine/Ops.lean ====
section
/-! DEFINITION. The named operations over the state: one update per effect the rules write, the refusal of an Issue,
and the entry of the two signals (R204, R205), which is all the framer has for exceptions: nothing is saved, there is
no handler and no return (R212). -/

namespace Sys2Proof.Machine

/-- What a step or a meaning answers. -/
abbrev StepResult := Host.Outcome State Fault Refusal

/-- Go on with `k` from a next state; a stop stays a stop. -/
def andThen (r : StepResult) (k : State → StepResult) : StepResult :=
  match r with
  | .next s => k s
  | .fault f => .fault f
  | .refused q => .refused q

/-- `MemRead(a, n)` over the receive buffer (R7). -/
def memRead (buf : Vector Byte 47) (a n : Nat) : List Byte := (buf.toList.drop a).take n

/-- `MemWrite(a, |v|, v)` into a byte file (R7). -/
def memWrite {n : Nat} (file : Vector Byte n) (a : Nat) : List Byte → Vector Byte n
  | [] => file
  | b :: t => memWrite (file.setIfInBounds a b) (a + 1) t

/-- The cleared value of R30 for every element except OP and PHASE. -/
def State.clearOperation (s : State) : State :=
  { s with
    rkind := .noResult, fallback := false, esc := false, count := 0
    rxbuf := Vector.replicate 47 0, meas := Vector.replicate 10 0
    str := Vector.replicate 17 0, strlen := 0, vmaj := 0, vmin := 0 }

/-- OP <- op. -/
def State.setOp (s : State) (op : Op) : State := { s with op := op }

/-- PHASE <- p. -/
def State.setPhase (s : State) (p : Phase) : State := { s with phase := p }

/-- T.rxq <- q. -/
def State.setRxq (s : State) (q : List Byte) : State := { s with rxq := q }

/-- The events still to come. -/
def State.setEvents (s : State) (es : List Event) : State := { s with events := es }

/-- `FlushInput()`, R150. -/
def State.flushInput (s : State) : State := s.setRxq []

/-- `WriteFrame(f)`, R151: always accepted, whole (D20). -/
def State.writeFrame (s : State) (f : List Byte) : State := { s with txlog := s.txlog ++ f }

/-- `SensorAppend(bs)`, R46. -/
def State.sensorAppend (s : State) (bs : List Byte) : State := s.setRxq (s.rxq ++ bs)

/-- The refusal of an Issue (R156, R157): no framer element and no transport state changes; the model notes the
code in its own mark (R221). -/
def State.refuseIssue (s : State) (code : BitVec 3) : State :=
  { s with refusedIssues := s.refusedIssues ++ [code] }

/-- The appending half of `DestuffStep` (R119). -/
def State.storeByte (s : State) (b : Byte) : State :=
  { s with rxbuf := s.rxbuf.setIfInBounds s.count b, count := s.count + 1, esc := escAfter b }

/-- The replacing half of `DestuffStep` (R119): the provisional 0x7D becomes the original. -/
def State.replaceLast (s : State) (o : Byte) : State :=
  { s with rxbuf := s.rxbuf.setIfInBounds (s.count - 1) o, esc := false }

/-- ESC <- 0. -/
def State.clearEsc (s : State) : State := { s with esc := false }

/-- The partial response is discarded (R153). -/
def State.discardPartial (s : State) : State :=
  { s with count := 0, esc := false, rxbuf := Vector.replicate 47 0 }

/-- The MEASUREMENT result (R127). -/
def State.putMeasurement (s : State) (m : Vector Word 10) (fb : Bool) : State :=
  { s with meas := m, fallback := fb, rkind := .measurement }

/-- The STRING result (R127). -/
def State.putString (s : State) (p : List Byte) : State :=
  { s with str := memWrite s.str 0 p, strlen := BitVec.ofNat 5 p.length, rkind := .string }

/-- The VERSION result (R127). -/
def State.putVersion (s : State) (major minor : Int) : State :=
  { s with vmaj := BitVec.ofInt 8 major, vmin := BitVec.ofInt 8 minor, rkind := .version }

/-- The result kind and the phase of a signal (R7 `raise`). -/
def State.raise (s : State) (k : ResultKind) (p : Phase) : State := { s with rkind := k, phase := p }

/-- Timeout, entry (R204). -/
def State.raiseTimeout (s : State) : State := s.discardPartial.raise .timeout .timedOut

/-- DecodeError, entry (R205). -/
def State.raiseDecodeError (s : State) : State := s.raise .decodeError .responseComplete

/-- `Reset` (R31): the framer at rest; the transport, the schedule and the model's mark are not touched. -/
def State.resetFramer (s : State) : State := (s.clearOperation.setOp .start).setPhase .idle

end Sys2Proof.Machine
end

