-- ==== Sys2Proof/Machine/Receive.lean ====
section
/-! DEFINITION. The receive path: `DestuffStep` (R119), completion and decoding (R152, R127), the transport events
`RxByte` (R152) and `RxTimeout` (R153), and the taking of every byte that can be taken (R154). -/

namespace Sys2Proof.Machine

/-- `DestuffStep(b)`, R119. -/
def destuffStep (b : Byte) (s : State) : StepResult :=
  match (if s.esc then unesc b else none) with
  | some o => if s.count = 0 then .fault .escapeBeforeFirstByte else .next (s.replaceLast o)
  | none => .next (s.storeByte b)

/-- `DecodePayload(kind, p)`, R127. -/
def decodePayload (k : Kind) (p : List Byte) (s : State) : StepResult :=
  match k with
  | .measurement => .next (s.putMeasurement (decodeMeasurement p).1 (decodeMeasurement p).2)
  | .ascii =>
    match decodeAscii p with
    | some str => if str.length ≤ pInfo then .next (s.putString str) else .refused .stringTooLong
    | none => .next s.raiseDecodeError
  | .firmware =>
    match decodeFirmware p with
    | some v => .next (s.putVersion v.1 v.2)
    | none => .next s.raiseDecodeError

/-- The `if COUNT = N` part of R152: on completion the frame is checked (a no-op), sliced and decoded. -/
def completeIfFull (r : Response) (s : State) : StepResult :=
  if s.count = r.n then
    match verifyChecksum (memRead s.rxbuf 0 r.n) with
    | .pass =>
      andThen (decodePayload r.kind (extractPayload (memRead s.rxbuf 0 r.n)) s.clearEsc)
        (fun t => .next (t.setPhase .responseComplete))
  else .next s

/-- `RxByte(b)` of R152 once enabled: T.rxq is `b` before `rest`. -/
def takeByte (b : Byte) (rest : List Byte) (s : State) : StepResult :=
  match s.op.response with
  | none => .fault .noResponseExpected
  | some r =>
    if s.count < r.n then andThen (destuffStep b (s.setRxq rest)) (completeIfFull r)
    else .fault .countPastEnd

/-- The event `RxByte`, R152; not enabled outside REQUEST_SENT or on an empty queue (R11). -/
def rxByte (s : State) : StepResult :=
  match s.phase, s.rxq with
  | .requestSent, b :: rest => takeByte b rest s
  | _, _ => .refused .rxByteNotEnabled

/-- The event `RxTimeout`, R153; not enabled outside REQUEST_SENT or on a queue that holds a byte (R11). -/
def rxTimeout (s : State) : StepResult :=
  match s.phase, s.rxq with
  | .requestSent, [] => .next s.raiseTimeout
  | _, _ => .refused .rxTimeoutNotEnabled

/-- `RxByte` for each byte of the queue `q` in turn, as long as it is enabled (R152, R154); what the framer does not
take stays in T.rxq (R48, R259). -/
def receive : List Byte → State → StepResult
  | [], s => .next (s.setRxq [])
  | b :: rest, s =>
    if s.phase = .requestSent then andThen (takeByte b rest s) (receive rest)
    else .next (s.setRxq (b :: rest))

/-- The raw bytes `bs` reach the framer: the sensor appends them (R46) and the framer takes every byte it may take
(R152). Log entries 6 and 7. -/
def deliver (bs : List Byte) (s : State) : StepResult := receive (s.rxq ++ bs) (s.sensorAppend bs)

end Sys2Proof.Machine
end

