-- ==== Sys2Proof/Machine/Escape.lean ====
section
/-! DEFINITION. The four escape rows (R72): those two raw bytes reach the framer (log entry 7), which takes them as
R119 says. -/

namespace Sys2Proof.Machine

/-- ESC_7E, the raw bytes 7D 5E. -/
def execEsc7E (s : State) : StepResult := deliver [0x7D, 0x5E] s

/-- ESC_7D, the raw bytes 7D 5D. -/
def execEsc7D (s : State) : StepResult := deliver [0x7D, 0x5D] s

/-- ESC_11, the raw bytes 7D 31. -/
def execEsc11 (s : State) : StepResult := deliver [0x7D, 0x31] s

/-- ESC_13, the raw bytes 7D 33. -/
def execEsc13 (s : State) : StepResult := deliver [0x7D, 0x33] s

end Sys2Proof.Machine
end

