-- ==== Sys2Proof/Machine/Operation.lean ====
section
/-! DEFINITION. `Issue(op)` (R155, R156, R157) and the six operations (R160 to R165), each one call of it. -/

namespace Sys2Proof.Machine

/-- The accepted part of `Issue(op)`, R155 steps 1 to 4. -/
def acceptIssue (op : Op) (s : State) : StepResult :=
  let d := descriptor op
  match buildFrame d.cmd d.subcommand d.args with
  | none => .refused .dataFieldTooLong
  | some f =>
    let sent := (((s.setOp op).clearOperation.flushInput).writeFrame f).setPhase .requestSent
    match d.response with
    | none => .next (sent.setPhase .responseComplete)
    | some _ => .next sent

/-- `Issue(op)`, R155: refused in REQUEST_SENT (R156) and for a reserved code (R157). -/
def issue (code : BitVec 3) (s : State) : StepResult :=
  if s.phase = .requestSent then .next (s.refuseIssue code)
  else
    match opOfCode code with
    | none => .next (s.refuseIssue code)
    | some op => acceptIssue op s

/-- START, R160. -/
def execStart (s : State) : StepResult := issue 0 s

/-- STOP, R161. -/
def execStop (s : State) : StepResult := issue 1 s

/-- READ_VALUES, R162; the response is taken by later events. -/
def execReadValues (s : State) : StepResult := issue 2 s

/-- READ_PRODUCT_TYPE, R163; the response is taken by later events. -/
def execReadProductType (s : State) : StepResult := issue 3 s

/-- READ_SERIAL_NUMBER, R164; the response is taken by later events. -/
def execReadSerialNumber (s : State) : StepResult := issue 4 s

/-- READ_FIRMWARE_VERSION, R165; the response is taken by later events. -/
def execReadFirmwareVersion (s : State) : StepResult := issue 5 s

/-- RESERVED_OP_6, R157: `Issue(6)` is refused in every phase. -/
def execReservedOp6 (s : State) : StepResult := issue 6 s

/-- RESERVED_OP_7, R157: `Issue(7)` is refused in every phase. -/
def execReservedOp7 (s : State) : StepResult := issue 7 s

end Sys2Proof.Machine
end

