-- ==== Sys2Proof/Machine/Response.lean ====
section
/-! DEFINITION. The three response rows (R76, R77, R78): that response reaches the framer on the wire (log entry 6). -/

namespace Sys2Proof.Machine

/-- The wire bytes of a response after its first byte: all but the last stuffed, the last as it is (R71, R75). -/
def wireTail : List Byte → List Byte
  | [] => []
  | [b] => [b]
  | b :: c :: t => forwardStuff [b] ++ wireTail (c :: t)

/-- The raw bytes of a response whose logical bytes are `f`: the two markers as they are, everything between them
stuffed (R71, R75). A first byte 0x7D, which no well-formed response has, is sent as its escape sequence. -/
def wire : List Byte → List Byte
  | [] => []
  | b :: t => (if b = escByte then forwardStuff [b] else [b]) ++ wireTail t

/-- RESP_MEASUREMENT, R76. -/
def execRespMeasurement (f : List Byte) (s : State) : StepResult := deliver (wire f) s

/-- RESP_DEVICE_INFO, R77. -/
def execRespDeviceInfo (f : List Byte) (s : State) : StepResult := deliver (wire f) s

/-- RESP_FIRMWARE, R78. -/
def execRespFirmware (f : List Byte) (s : State) : StepResult := deliver (wire f) s

end Sys2Proof.Machine
end

