-- ==== Sys2Proof/Machine/Dispatch.lean ====
section
/-! DEFINITION. One arm per constructor of Instr, each one call of that instruction's meaning. -/

namespace Sys2Proof.Machine

open Sys2Proof

def exec (i : Instr) (s : State) : Host.Outcome State Fault Refusal :=
  match i with
  | .start => Sys2Proof.Machine.execStart s
  | .stop => Sys2Proof.Machine.execStop s
  | .readValues => Sys2Proof.Machine.execReadValues s
  | .readProductType => Sys2Proof.Machine.execReadProductType s
  | .readSerialNumber => Sys2Proof.Machine.execReadSerialNumber s
  | .readFirmwareVersion => Sys2Proof.Machine.execReadFirmwareVersion s
  | .reservedOp6 => Sys2Proof.Machine.execReservedOp6 s
  | .reservedOp7 => Sys2Proof.Machine.execReservedOp7 s
  | .respMeasurement f => Sys2Proof.Machine.execRespMeasurement f s
  | .respDeviceInfo f => Sys2Proof.Machine.execRespDeviceInfo f s
  | .respFirmware f => Sys2Proof.Machine.execRespFirmware f s
  | .esc7E => Sys2Proof.Machine.execEsc7E s
  | .esc7D => Sys2Proof.Machine.execEsc7D s
  | .esc11 => Sys2Proof.Machine.execEsc11 s
  | .esc13 => Sys2Proof.Machine.execEsc13 s

end Sys2Proof.Machine
end

