-- ==== Sys2Proof/Machine/Events.lean ====
section
/-! DEFINITION. The events of R11, and how a table word becomes the next event. -/

namespace Sys2Proof.Machine

/-- The event `e` happens in a state whose later events are already set: `Issue` runs the row its host code selects
(R81), an image the row it decodes to, and the other four events are those of R11. -/
def happen (e : Event) (s : State) : StepResult :=
  match e with
  | .issue code => exec (instrOfCode code) s
  | .image bytes =>
    match decode bytes with
    | .ok i => exec i s
    | .error why => .refused (.undecodable why)
  | .rxByte => rxByte s
  | .rxTimeout => rxTimeout s
  | .sensorAppend bs => .next (s.sensorAppend bs)
  | .reset => .next s.resetFramer

/-- The first of the events still to come, and the state without it (log entry 1). -/
def nextEvent (s : State) : Option (Event × State) :=
  match s.events with
  | [] => none
  | e :: rest => some (e, s.setEvents rest)

/-- The events with the image of the table's bits `w` placed before those still to come (log entry 3). -/
def placeWord (s : State) (nbits w : Nat) : State :=
  s.setEvents (.image (imageOfTable nbits w) :: s.events)

end Sys2Proof.Machine
end

