-- ==== Sys2Proof/Machine/HostView.lean ====
section
/-! DEFINITION. What the host sees (R171): the register reads of R12, which change nothing (R51), and the value an
API call returns (R168). -/

namespace Sys2Proof.Machine

/-- The code PHASE shows (R14). -/
def Phase.code : Phase → BitVec 2
  | .idle => 0
  | .requestSent => 1
  | .responseComplete => 2
  | .timedOut => 3

/-- The code RKIND shows (R15). -/
def ResultKind.code : ResultKind → BitVec 3
  | .noResult => 0
  | .measurement => 1
  | .string => 2
  | .version => 3
  | .timeout => 4
  | .decodeError => 5

/-- A host read of a register (R12, R171), as the number its bits stand for: VMAJ and VMIN signed (R22), every other
register unsigned. Any register can be read in any phase (R23); RXBUF, COUNT and ESC cannot be read at all (R25). -/
def hostRead (r : HostReg) (s : State) : Int :=
  match r with
  | .op => s.op.code.toNat
  | .phase => s.phase.code.toNat
  | .rkind => s.rkind.code.toNat
  | .fallback => s.fallback.toNat
  | .meas i => s.meas[i].toNat
  | .str i => s.str[i].toNat
  | .strlen => s.strlen.toNat
  | .vmaj => s.vmaj.toInt
  | .vmin => s.vmin.toInt

/-- The "done" level a host may derive (R209). -/
def done (s : State) : Bool := s.phase == .responseComplete || s.phase == .timedOut

/-- What an API call returns (R168). -/
inductive ApiResult where
  | nothing
  | measurement (m : Vector Word 10) (fallback : Bool)
  | string (text : List Byte)
  | timeout
  | decodeError
  deriving DecidableEq, Repr

/-- The value the caller gets in a terminal phase (R168): none before the operation has ended, and for a combination
that R168 says is not reachable. -/
def apiResult (s : State) : Option ApiResult :=
  if done s then
    match s.op, s.rkind with
    | .start, .noResult => some .nothing
    | .stop, .noResult => some .nothing
    | .readValues, .measurement => some (.measurement s.meas s.fallback)
    | .readValues, .timeout => some .timeout
    | .readProductType, .string => some (.string (s.str.toList.take s.strlen.toNat))
    | .readProductType, .timeout => some .timeout
    | .readProductType, .decodeError => some .decodeError
    | .readSerialNumber, .string => some (.string (s.str.toList.take s.strlen.toNat))
    | .readSerialNumber, .timeout => some .timeout
    | .readSerialNumber, .decodeError => some .decodeError
    | .readFirmwareVersion, .version => some (.string (formatVersion s.vmaj.toInt s.vmin.toInt))
    | .readFirmwareVersion, .timeout => some .timeout
    | _, _ => none
  else none

end Sys2Proof.Machine
end

