-- ==== Sys2Proof/Machine/Step.lean ====
section
/-! DEFINITION. One step: the first event still to come happens, whole (R7, R11). With no event to come the machine
is at rest: the framer does nothing on its own (R10, R240). -/

namespace Sys2Proof.Machine

/-- One step of the machine. -/
def step (s : State) : Host.Outcome State Fault Refusal :=
  match nextEvent s with
  | none => .next s
  | some (e, s') => happen e s'

/-- The state in which the next event is the instruction the table's bits `w` stand for (log entry 3). -/
def State.withFetchWord (s : State) (nbits w : Nat) : State := placeWord s nbits w

end Sys2Proof.Machine
end

