-- ==== Sys2Proof/Safety.lean ====
section
/-! DEFINITION. The terms claims use: the invariants of R26 with the promises of R19, R21, R23 and R30, what it is to
wait for a response, the predicates on byte streams of R73, R79, R117 and R159, and the value of decimal digits (R126). -/

namespace Sys2Proof.Machine

/-- Every element but OP and PHASE holds its cleared value (R30). -/
structure State.Cleared (s : State) : Prop where
  rkind : s.rkind = .noResult
  fallback : s.fallback = false
  esc : s.esc = false
  count : s.count = 0
  rxbuf : s.rxbuf = Vector.replicate 47 0
  meas : s.meas = Vector.replicate 10 0
  str : s.str = Vector.replicate 17 0
  strlen : s.strlen = 0
  vmaj : s.vmaj = 0
  vmin : s.vmin = 0

/-- The framer waits for `n` logical bytes, to be decoded as `k` (R152). -/
def State.Waits (s : State) (n : Nat) (k : Kind) : Prop :=
  s.phase = .requestSent ∧ s.op.response = some ⟨n, k⟩

/-- What R26 item 5 says of a completed operation. -/
def completedAs (op : Op) (rk : ResultKind) (count : Nat) : Prop :=
  match op with
  | .start | .stop => rk = .noResult ∧ count = 0
  | .readValues => rk = .measurement ∧ count = 47
  | .readProductType | .readSerialNumber => (rk = .string ∨ rk = .decodeError) ∧ count = 24
  | .readFirmwareVersion => rk = .version ∧ count = 14

/-- The invariants of the framer: R26 items 1 and 3 to 7, the part of item 2 that speaks of the state alone, and
what R19, R21 and R23 say of bytes and registers that are not meaningful. -/
structure State.Inv (s : State) : Prop where
  /-- item 1 -/
  waiting : s.phase = .requestSent → s.rkind = .noResult ∧ ∃ r, s.op.response = some r ∧ s.count < r.n
  /-- item 2 and R19: bytes at COUNT and above are 0x00 -/
  tailZero : s.count ≤ 47 ∧ s.rxbuf.toList.drop s.count = List.replicate (47 - s.count) 0
  /-- item 3 -/
  pending : s.esc = true → s.phase = .requestSent ∧ 1 ≤ s.count ∧ s.rxbuf.toList[s.count - 1]? = some 0x7D
  /-- item 4 -/
  timedOut : s.phase = .timedOut ↔ s.rkind = .timeout
  /-- item 4, and R202: START and STOP never time out -/
  timedOutClear : s.phase = .timedOut → s.count = 0 ∧ s.op.response.isSome = true
  /-- item 5 -/
  complete : s.phase = .responseComplete → completedAs s.op s.rkind s.count
  /-- item 6 -/
  noFallback : s.fallback = false
  /-- item 7: nothing has been issued, so the framer is as after Reset -/
  idle : s.phase = .idle → s.op = .start ∧ s.Cleared
  /-- R23: MEAS is zero unless RKIND says it is meaningful -/
  measZero : s.rkind ≠ .measurement → s.meas = Vector.replicate 10 0
  /-- R23: STR and STRLEN are zero unless RKIND says they are meaningful -/
  strZero : s.rkind ≠ .string → s.str = Vector.replicate 17 0 ∧ s.strlen = 0
  /-- R21: a string has 17 characters of 7 bits -/
  strText : s.rkind = .string → s.strlen = 17 ∧ ∀ b ∈ s.str, b.toNat ≤ 0x7F
  /-- R23: VMAJ and VMIN are zero unless RKIND says they are meaningful -/
  versionZero : s.rkind ≠ .version → s.vmaj = 0 ∧ s.vmin = 0

/-- `r` ends in an unpaired 0x7D, one that R114 emits as 0x7D (R117). -/
def endsUnpaired : List Byte → Bool
  | [] => false
  | [b] => b == escByte
  | b :: c :: t => if b = escByte ∧ (unesc c).isSome then endsUnpaired t else endsUnpaired (c :: t)

/-- No index holds 0x7D followed by 5E, 5D, 31 or 33 (R115 item 2). -/
def noEscapeSequence : List Byte → Bool
  | [] => true
  | [_] => true
  | b :: c :: t => !(b == escByte && (unesc c).isSome) && noEscapeSequence (c :: t)

/-- The bytes a stuffed body may hold (R73, R111): 0x7E, 0x11 and 0x13 never, 0x7D only before 5E, 5D, 31 or 33. -/
def stuffedBody : List Byte → Bool
  | [] => true
  | [b] => (esc b).isNone
  | b :: c :: t =>
    if b = escByte then (unesc c).isSome && stuffedBody t else (esc b).isNone && stuffedBody (c :: t)

/-- The number of reserved bytes of a sequence (R71, R111). -/
def reservedCount (s : List Byte) : Nat := s.countP (fun b => (esc b).isSome)

/-- The number that a sequence of decimal digits in ASCII stands for, most significant first (R126). -/
def decimalValue (s : List Byte) : Nat := s.foldl (fun n c => 10 * n + (c.toNat - 0x30)) 0

/-- `WellFormedResponse(f, N)`, R79: a premise about the environment; the framer never evaluates it. -/
def wellFormedResponse (f : List Byte) (n : Nat) : Bool :=
  f.length == n && f.head? == some 0x7E && f.getLast? == some 0x7E
    && f[4]? == some (BitVec.ofNat 8 (n - 7))
    && f[n - 2]? == some (checksum ((f.drop 1).take (n - 3)))

/-- The number of raw bytes `ReadExactly(q, N)` takes (R159): the least `k` for which the first `k` bytes of `q` hold
`n` logical bytes; none where the read ends in Timeout. -/
def rawBytesFor (q : List Byte) (n : Nat) : Option Nat :=
  (List.range (q.length + 1)).find? (fun k => (reverseStuffing (q.take k)).length == n)

/-- The state R155 leaves when the operation `op` has been accepted, its frame `f` written and the phase is `p`. -/
def State.issued (s : State) (op : Op) (p : Phase) (f : List Byte) : State :=
  { s with
    op := op, phase := p
    rkind := .noResult, fallback := false, esc := false, count := 0
    rxbuf := Vector.replicate 47 0, meas := Vector.replicate 10 0
    str := Vector.replicate 17 0, strlen := 0, vmaj := 0, vmin := 0
    rxq := [], txlog := s.txlog ++ f }

/-- The raw bytes by which a response or escape row reaches the framer, none for the other rows. -/
def deliveredBytes : Instr → Option (List Byte)
  | .start | .stop | .readValues | .readProductType | .readSerialNumber | .readFirmwareVersion => none
  | .reservedOp6 | .reservedOp7 => none
  | .respMeasurement f | .respDeviceInfo f | .respFirmware f => some (wire f)
  | .esc7E => some [0x7D, 0x5E]
  | .esc7D => some [0x7D, 0x5D]
  | .esc11 => some [0x7D, 0x31]
  | .esc13 => some [0x7D, 0x33]

/-- The bytes an event appends to T.rxq before anything is taken from it (R46). -/
def appendedBytes : Event → List Byte
  | .sensorAppend bs => bs
  | .image w =>
    match decode w with
    | .ok i => (deliveredBytes i).getD []
    | .error _ => []
  | .issue _ | .rxByte | .rxTimeout | .reset => []

/-- The host code an event issues, none for an event that is no Issue (R81, R155). -/
def issuedCode : Event → Option (BitVec 3)
  | .issue c => some c
  | .image w =>
    match decode w with
    | .ok i => hostCode i
    | .error _ => none
  | .rxByte | .rxTimeout | .sensorAppend _ | .reset => none

/-- The rows of R166 for an Issue of code `c`. -/
def IssueMovesPhase (c : BitVec 3) (s t : State) : Prop :=
  (s.phase = .requestSent ∨ 6 ≤ c.toNat → t.phase = s.phase) ∧
  (s.phase ≠ .requestSent → c.toNat < 2 → t.phase = .responseComplete) ∧
  (s.phase ≠ .requestSent → 2 ≤ c.toNat → c.toNat < 6 → t.phase = .requestSent)

end Sys2Proof.Machine
end

