-- ==== Sys2Proof/Certificates/Slice0/Obligations.lean ====
section
/-! DEFINITION. The statements for the provers, in the order of spec/: the codec, the encodings, the operations, the
transport events, whole operations from request to result, and the machine. Statements about `step` rest on log entry
1 (the schedule in `events`), those about `happen` and `exec` do not; a docstring names any other choice of the model a
statement rests on. -/

open Sys2Proof Sys2Proof.Machine

/-! ### The codec (40_frame_codec.md) -/

/-- R110: the checksum is 255 minus the low byte of the unbounded sum, with the corner cases and the reserved result
of the rule's own example. -/
def Obligations.ChecksumIsComplementOfLowByteOfSum : Prop :=
  (∀ s : List Byte, (checksum s).toNat = 255 - (s.map BitVec.toNat).sum % 256) ∧
  checksum [] = 0xFF ∧
  (∀ s : List Byte, (s.map BitVec.toNat).sum % 256 = 0 → checksum s = 0xFF) ∧
  (∀ s : List Byte, (s.map BitVec.toNat).sum % 256 = 255 → checksum s = 0x00) ∧
  checksum [0x00, 0xD1, 0x00, 0x07, 0x01, 0x02, 0x00, 0x11, 0x00, 0x02, 0x00] = 0x11 ∧
  checksum [0x00, 0x00, 0x02, 0x01, 0x03] = 0xF9

/-- R72: the four rows; the mapping is a bijection between the four reserved bytes and the four second bytes, and no
other byte is escaped or unescaped. -/
def Obligations.EscapeTableIsABijectionOnItsFourRows : Prop :=
  esc 0x7E = some 0x5E ∧ esc 0x7D = some 0x5D ∧ esc 0x11 = some 0x31 ∧ esc 0x13 = some 0x33 ∧
  (∀ b c : Byte, esc b = some c ↔ unesc c = some b) ∧
  (∀ b : Byte, (esc b).isSome ↔ b = 0x7E ∨ b = 0x7D ∨ b = 0x11 ∨ b = 0x13) ∧
  (∀ c : Byte, (unesc c).isSome ↔ c = 0x5E ∨ c = 0x5D ∨ c = 0x31 ∨ c = 0x33)

/-- R111: every byte is treated on its own, a reserved byte becomes its escape sequence, the length grows by the
number of reserved bytes, the second bytes pass unchanged, and the output holds 7E, 11 and 13 nowhere and 7D only as the
first byte of an escape sequence. -/
def Obligations.ForwardStuffEscapesEachByteOnItsOwn : Prop :=
  forwardStuff [] = [] ∧
  (∀ b ∈ [(0x5E : Byte), 0x5D, 0x31, 0x33], forwardStuff [b] = [b]) ∧
  (∀ b c : Byte, esc b = some c → forwardStuff [b] = [0x7D, c]) ∧
  (∀ b : Byte, esc b = none → forwardStuff [b] = [b]) ∧
  (∀ s t : List Byte, forwardStuff (s ++ t) = forwardStuff s ++ forwardStuff t) ∧
  (∀ s : List Byte, (forwardStuff s).length = s.length + reservedCount s) ∧
  (∀ s : List Byte, 0x7E ∉ forwardStuff s ∧ 0x11 ∉ forwardStuff s ∧ 0x13 ∉ forwardStuff s) ∧
  (∀ s : List Byte, stuffedBody (forwardStuff s) = true) ∧
  forwardStuff [0x7E, 0x00, 0x7D, 0x11, 0x13, 0x5E] = [0x7D, 0x5E, 0x00, 0x7D, 0x5D, 0x7D, 0x31, 0x7D, 0x33, 0x5E]

/-- Rule 115 item 3, which the spec marks "[derived: from rule R111 and rule R114 …]": the round-trip law. -/
def Obligations.ReverseStuffingUndoesForwardStuff : Prop :=
  ∀ s : List Byte, reverseStuffing (forwardStuff s) = s

/-- Rule 115 item 1, marked derived: every occurrence of an escape sequence is replaced, whatever surrounds it. -/
def Obligations.EveryEscapeSequenceIsReversedWhereverItStands : Prop :=
  ∀ (a c : List Byte) (b e : Byte), esc b = some e →
    reverseStuffing (a ++ [0x7D, e] ++ c) = reverseStuffing a ++ [b] ++ reverseStuffing c

/-- Rule 115 item 2: a no-op exactly on the sequences without an escape sequence (the direction "only if" is item 1 of
rule 117, marked derived). -/
def Obligations.ReverseStuffingIsNoOpExactlyWithoutEscapes : Prop :=
  ∀ r : List Byte, (noEscapeSequence r = true → reverseStuffing r = r) ∧
    (reverseStuffing r).length ≤ r.length ∧
    ((reverseStuffing r).length = r.length ↔ noEscapeSequence r = true)

/-- Rule 117 items 2 and 3, marked derived: one more raw byte either turns the unpaired last 7D into its original or
is appended. -/
def Obligations.OneMoreRawByteReplacesTheLastOrIsAppended : Prop :=
  ∀ (r : List Byte) (b : Byte),
    (∀ o : Byte, endsUnpaired r = true → unesc b = some o →
      (reverseStuffing r).getLast? = some 0x7D ∧
      reverseStuffing (r ++ [b]) = (reverseStuffing r).dropLast ++ [o] ∧
      (reverseStuffing (r ++ [b])).length = (reverseStuffing r).length) ∧
    (endsUnpaired r = false ∨ unesc b = none →
      reverseStuffing (r ++ [b]) = reverseStuffing r ++ [b])

/-- Rule 118, marked derived: reversal of the parts differs from reversal of the whole exactly when an escape sequence
is split. -/
def Obligations.ReversalOfPartsFailsExactlyAtASplitEscape : Prop :=
  ∀ a b : List Byte,
    reverseStuffing (a ++ b) ≠ reverseStuffing a ++ reverseStuffing b ↔
      endsUnpaired a = true ∧ ∃ c t, b = c :: t ∧ (unesc c).isSome

/-- Rules 112 and 113 (113 is marked derived; the refusal of more than 255 data bytes is decision D19): the length,
the markers, and the body that stuffing reversal gives back. -/
def Obligations.BuiltFrameHasItsBodyBetweenMarkers : Prop :=
  ∀ (c : Byte) (sub : Option Byte) (args : List Byte),
    let data := sub.toList ++ args
    let body := [0x00, c, BitVec.ofNat 8 data.length] ++ data
    (255 < data.length → buildFrame c sub args = none) ∧
    (data.length ≤ 255 → ∃ f, buildFrame c sub args = some ([0x7E] ++ f ++ [0x7E]) ∧
      0x7E ∉ f ∧
      f.length = 4 + data.length + reservedCount (body ++ [checksum body]) ∧
      reverseStuffing ([0x7E] ++ f ++ [0x7E]) = [0x7E] ++ body ++ [checksum body] ++ [0x7E])

/-- R122: the payload is what stands between the first five bytes and the last two, whatever these are, and empty for
fewer than seven bytes; through the operations it has 40, 17 or 7 bytes. -/
def Obligations.PayloadIsTheSliceWithoutHeaderAndTrailer : Prop :=
  (∀ h p t : List Byte, h.length = 5 → t.length = 2 → extractPayload (h ++ p ++ t) = p) ∧
  (∀ f : List Byte, f.length ≤ 7 → extractPayload f = []) ∧
  (∀ (op : Op) (r : Response) (buf : Vector Byte 47), op.response = some r →
    (extractPayload (memRead buf 0 r.n)).length = match r.kind with
      | .measurement => 40
      | .ascii => 17
      | .firmware => 7) ∧
  extractPayload [0x7E, 0x00, 0xD1, 0x00, 0x07, 0x01, 0x02, 0x00, 0x00, 0x00, 0x00, 0x00, 0x00, 0x7E] =
    [0x01, 0x02, 0x00, 0x00, 0x00, 0x00, 0x00]

/-- R123: forty bytes give ten big-endian words, the first byte most significant, and no fallback; any other length
gives ten zeros and the fallback; no error in either case. -/
def Obligations.MeasurementIsTenBigEndianWordsOrTheFallback : Prop :=
  ∀ p : List Byte,
    (∀ h : p.length = 40, (decodeMeasurement p).2 = false ∧
      ∀ i : Fin 10, (decodeMeasurement p).1[i].toNat =
        (p[4 * i.val]'(by omega)).toNat * 2 ^ 24 + (p[4 * i.val + 1]'(by omega)).toNat * 2 ^ 16 +
        (p[4 * i.val + 2]'(by omega)).toNat * 2 ^ 8 + (p[4 * i.val + 3]'(by omega)).toNat) ∧
    (p.length ≠ 40 → decodeMeasurement p = (Vector.replicate 10 0, true))

/-- Rule 124; that valid ASCII means 0x00 to 0x7F the spec takes from general knowledge (G6, log entry 15). -/
def Obligations.AsciiIsThePayloadOrADecodeError : Prop :=
  ∀ p : List Byte, ((∀ b ∈ p, b.toNat ≤ 127) → decodeAscii p = some p) ∧
    ((∃ b ∈ p, 128 ≤ b.toNat) → decodeAscii p = none)

/-- Rule 125; two's complement the spec takes from general knowledge (G5, log entry 15). -/
def Obligations.FirmwareIsTwoSignedBytesOfSeven : Prop :=
  (∀ a b c d e f g : Byte, decodeFirmware [a, b, c, d, e, f, g] =
    some ((if a.toNat ≤ 127 then (a.toNat : Int) else a.toNat - 256),
          (if b.toNat ≤ 127 then (b.toNat : Int) else b.toNat - 256))) ∧
  (∀ p : List Byte, p.length ≠ 7 → decodeFirmware p = none)

/-- Rule 126 (the spelling of negative numbers is decision D16): the digits are the decimal digits, most significant
first, "0" for 0 and otherwise without leading zeros; a "-" stands before those of a negative number and a "." between
the two numbers; the rule's four texts; for two signed bytes 3 to 9 characters, which determine both. -/
def Obligations.VersionTextDeterminesBothNumbers : Prop :=
  digits 0 = [0x30] ∧
  (∀ n : Nat, digits n ≠ [] ∧ (∀ c ∈ digits n, 0x30 ≤ c.toNat ∧ c.toNat ≤ 0x39) ∧ decimalValue (digits n) = n ∧
    (n ≠ 0 → (digits n).head? ≠ some 0x30)) ∧
  (∀ a b : Int, formatVersion a b =
    (if a < 0 then [0x2D] else []) ++ digits a.natAbs ++ [0x2E] ++ ((if b < 0 then [0x2D] else []) ++ digits b.natAbs)) ∧
  formatVersion 1 2 = [0x31, 0x2E, 0x32] ∧
  formatVersion 0 0 = [0x30, 0x2E, 0x30] ∧
  formatVersion 127 10 = [0x31, 0x32, 0x37, 0x2E, 0x31, 0x30] ∧
  formatVersion (-1) (-128) = [0x2D, 0x31, 0x2E, 0x2D, 0x31, 0x32, 0x38] ∧
  (∀ a b : BitVec 8, 3 ≤ (formatVersion a.toInt b.toInt).length ∧ (formatVersion a.toInt b.toInt).length ≤ 9) ∧
  (∀ a b c d : BitVec 8, formatVersion a.toInt b.toInt = formatVersion c.toInt d.toInt → a = c ∧ b = d)

/-! ### Encodings (30_encoding.md and the table) -/

/-- Every row of the table: decoding the encoding of a well-formed instruction gives it back, with every operand. -/
def Obligations.DecodingAnEncodingGivesTheInstructionBack : Prop :=
  ∀ i : Instr, WellFormed i = true → decode (encode i) = .ok i

/-- Whatever the decoder accepts is well formed, and its image is the row's own words or the row's host code: no
other command frame, however stuffed, is taken for one of the six. -/
def Obligations.AcceptedImagesAreExactlyTheTablesWords : Prop :=
  ∀ (w : List Byte) (i : Instr), decode w = .ok i →
    WellFormed i = true ∧ (w = encode i ∨ ∃ c, hostCode i = some c ∧ w = [c.setWidth 8])

/-- R81: the host codes 0 to 5 in the order of the descriptor list, and the reserved codes 6 and 7. -/
def Obligations.HostCodesSelectTheRowsInOrder : Prop :=
  decode [0x00] = .ok .start ∧ decode [0x01] = .ok .stop ∧ decode [0x02] = .ok .readValues ∧
  decode [0x03] = .ok .readProductType ∧ decode [0x04] = .ok .readSerialNumber ∧
  decode [0x05] = .ok .readFirmwareVersion ∧ decode [0x06] = .ok .reservedOp6 ∧ decode [0x07] = .ok .reservedOp7 ∧
  ∀ c : BitVec 3, hostCode (instrOfCode c) = some c

/-- A few words of the table, each format among them, decode to the rows they stand for. -/
def Obligations.TableWordsDecodeToTheirRows : Prop :=
  decodeTableWord 64 0x7E0000020103F97E = some .start ∧
  decodeTableWord 48 0x7E000100FE7E = some .stop ∧
  decodeTableWord 56 0x7E00D001032B7E = some .readSerialNumber ∧
  decodeTableWord 3 6 = some .reservedOp6 ∧
  decodeTableWord 16 0x7D5E = some .esc7E ∧
  decodeTableWord 112 0x7E00D1000701020007000200_1B7E =
    some (.respFirmware [0x7E, 0x00, 0xD1, 0x00, 0x07, 0x01, 0x02, 0x00, 0x07, 0x00, 0x02, 0x00, 0x1B, 0x7E])

/-- Rule 83 (four of the six frames are marked derived there): what BuildFrame makes of each descriptor is the frame
of the table's row. -/
def Obligations.DescriptorsBuildTheTablesFrames : Prop :=
  ∀ (op : Op) (i : Instr), hostCode i = some op.code →
    buildFrame (descriptor op).cmd (descriptor op).subcommand (descriptor op).args = some (encode i)

/-- The wire form a response row is delivered in (log entry 6): stuffing reversal gives back its logical bytes; of a
response that satisfies rule 79's predicate it is the marker, the stuffed body and the marker, of at most 2N-2 raw
bytes (rule 255), and with N = 24 of at least 25 (rule 77, marked derived). -/
def Obligations.WireFormOfAResponseReversesToItsLogicalBytes : Prop :=
  (∀ f : List Byte, reverseStuffing (wire f) = f) ∧
  (∀ (f : List Byte) (n : Nat), 7 ≤ n → wellFormedResponse f n = true →
    wire f = [0x7E] ++ forwardStuff ((f.drop 1).take (n - 2)) ++ [0x7E] ∧
    (wire f).length ≤ 2 * n - 2 ∧ (n = 24 → 25 ≤ (wire f).length))

/-! ### The operations (41_protocol_driver.md sections 2 and 3) -/

/-- START and STOP complete in the one step: everything cleared, the queue flushed, the frame written, terminal phase
with RKIND NONE. Rules 155, 160, 161; that they end in RESPONSE_COMPLETE is decision D5. -/
def Obligations.StartAndStopCompleteInOneStep : Prop :=
  ∀ s : State, s.phase ≠ .requestSent →
    exec .start s = .next (s.issued .start .responseComplete [0x7E, 0x00, 0x00, 0x02, 0x01, 0x03, 0xF9, 0x7E]) ∧
    exec .stop s = .next (s.issued .stop .responseComplete [0x7E, 0x00, 0x01, 0x00, 0xFE, 0x7E])

/-- The four reading operations are accepted in every phase but REQUEST_SENT: everything cleared, the queue flushed,
the command frame written, and the framer waits. Rules 155 and 162 to 165. -/
def Obligations.ReadingOperationsWriteTheirFrameAndWait : Prop :=
  ∀ s : State, s.phase ≠ .requestSent →
    exec .readValues s = .next (s.issued .readValues .requestSent [0x7E, 0x00, 0x03, 0x00, 0xFC, 0x7E]) ∧
    exec .readProductType s =
      .next (s.issued .readProductType .requestSent [0x7E, 0x00, 0xD0, 0x01, 0x01, 0x2D, 0x7E]) ∧
    exec .readSerialNumber s =
      .next (s.issued .readSerialNumber .requestSent [0x7E, 0x00, 0xD0, 0x01, 0x03, 0x2B, 0x7E]) ∧
    exec .readFirmwareVersion s =
      .next (s.issued .readFirmwareVersion .requestSent [0x7E, 0x00, 0xD1, 0x00, 0x2E, 0x7E])

/-- Rule 156: during REQUEST_SENT any Issue is refused and nothing changes. That the refused event is a step, noted in
the model's own list, is log entry 4. -/
def Obligations.IssueDuringAnOperationChangesNothing : Prop :=
  ∀ (s : State) (i : Instr) (c : BitVec 3), s.phase = .requestSent → hostCode i = some c →
    exec i s = .next { s with refusedIssues := s.refusedIssues ++ [c] }

/-- Rule 157: the reserved codes are refused in every phase and nothing changes. That the refused event is a step,
noted in the model's own list, is log entry 4. -/
def Obligations.ReservedCodesChangeNothingInAnyPhase : Prop :=
  ∀ s : State,
    exec .reservedOp6 s = .next { s with refusedIssues := s.refusedIssues ++ [6] } ∧
    exec .reservedOp7 s = .next { s with refusedIssues := s.refusedIssues ++ [7] }

/-- Rules 52, 30 and 212: an accepted operation carries nothing over from the operation before it; two machines that
agree on what lies outside the framer agree on everything after it. -/
def Obligations.AcceptedOperationForgetsTheOneBefore : Prop :=
  ∀ (s t : State) (i : Instr) (op : Op), hostCode i = some op.code →
    s.phase ≠ .requestSent → t.phase ≠ .requestSent →
    s.txlog = t.txlog → s.events = t.events → s.refusedIssues = t.refusedIssues →
    ∃ u, exec i s = .next u ∧ exec i t = .next u

/-! ### The transport events (41_protocol_driver.md section 2, 20_memory.md) -/

/-- R119, first branch, through R152: a table byte after a pending 0x7D replaces the stored 0x7D by the original,
COUNT stays, and nothing else changes. -/
def Obligations.TableByteAfterPendingEscapeReplacesIt : Prop :=
  ∀ (s : State) (n : Nat) (k : Kind) (b o : Byte) (rest : List Byte),
    s.Waits n k → s.count < n → 1 ≤ s.count → s.esc = true → unesc b = some o → s.rxq = b :: rest →
    happen .rxByte s = .next { s with
      rxq := rest
      rxbuf := s.rxbuf.setIfInBounds (s.count - 1) o, esc := false }

/-- R119, second branch, through R152, before completion: the byte is stored at COUNT, COUNT grows by one, and ESC is
set exactly by a 0x7D; nothing else changes. -/
def Obligations.OtherByteIsStoredAndCounted : Prop :=
  ∀ (s : State) (n : Nat) (k : Kind) (b : Byte) (rest : List Byte),
    s.Waits n k → s.count + 1 < n → (s.esc = false ∨ unesc b = none) → s.rxq = b :: rest →
    happen .rxByte s = .next { s with
      rxq := rest
      rxbuf := s.rxbuf.setIfInBounds s.count b, count := s.count + 1, esc := b == 0x7D }

/-- R152, completion of READ_VALUES: the byte that brings COUNT to 47 decodes RXBUF[5 : 45] into the ten words, with
FALLBACK 0, whatever the bytes are. -/
def Obligations.LastByteCompletesReadValues : Prop :=
  ∀ (s : State) (b : Byte) (rest : List Byte),
    s.phase = .requestSent → s.op = .readValues → s.count = 46 → (s.esc = false ∨ unesc b = none) →
    s.rxq = b :: rest →
    ∃ m : Vector Word 10,
      happen .rxByte s = .next { s with
        rxq := rest
        rxbuf := s.rxbuf.setIfInBounds 46 b, count := 47, esc := false
        meas := m, fallback := false, rkind := .measurement, phase := .responseComplete } ∧
      ∀ i : Fin 10, m[i] = be32 (s.rxbuf[5 + 4 * i.val]'(by omega)) (s.rxbuf[6 + 4 * i.val]'(by omega))
        (s.rxbuf[7 + 4 * i.val]'(by omega)) (s.rxbuf[8 + 4 * i.val]'(by omega))

/-- R152, completion of READ_PRODUCT_TYPE and READ_SERIAL_NUMBER: seventeen characters if all are ASCII, else
DecodeError, which writes nothing but RKIND (rules 124 and 205, G6, D15). -/
def Obligations.LastByteCompletesAnIdentificationRead : Prop :=
  ∀ (s : State) (b : Byte) (rest : List Byte),
    s.phase = .requestSent → (s.op = .readProductType ∨ s.op = .readSerialNumber) → s.count = 23 →
    (s.esc = false ∨ unesc b = none) → s.rxq = b :: rest →
    let done : State := { s with
      rxq := rest
      rxbuf := s.rxbuf.setIfInBounds 23 b, count := 24, esc := false, phase := .responseComplete }
    ((∀ k : Fin 17, (s.rxbuf[5 + k.val]'(by omega)).toNat ≤ 127) →
      happen .rxByte s = .next { done with
        str := Vector.ofFn (fun k : Fin 17 => s.rxbuf[5 + k.val]'(by omega)), strlen := 17, rkind := .string }) ∧
    ((∃ k : Fin 17, 128 ≤ (s.rxbuf[5 + k.val]'(by omega)).toNat) →
      happen .rxByte s = .next { done with rkind := .decodeError })

/-- R152, completion of READ_FIRMWARE_VERSION: VMAJ and VMIN are the payload's first two bytes, kept as their eight
bits, read as signed. -/
def Obligations.LastByteCompletesReadFirmwareVersion : Prop :=
  ∀ (s : State) (b : Byte) (rest : List Byte),
    s.phase = .requestSent → s.op = .readFirmwareVersion → s.count = 13 → (s.esc = false ∨ unesc b = none) →
    s.rxq = b :: rest →
    happen .rxByte s = .next { s with
      rxq := rest
      rxbuf := s.rxbuf.setIfInBounds 13 b, count := 14, esc := false
      vmaj := s.rxbuf[5], vmin := s.rxbuf[6], rkind := .version, phase := .responseComplete }

/-- R204: what the Timeout writes, that it leaves OP and everything else, the transport too, as it was, and that in
a state that meets the invariants the result registers then hold their cleared values. -/
def Obligations.TimeoutDiscardsThePartialResponse : Prop :=
  ∀ s : State, s.phase = .requestSent → s.rxq = [] →
    happen .rxTimeout s = .next { s with
      rkind := .timeout, phase := .timedOut
      count := 0, esc := false, rxbuf := Vector.replicate 47 0 } ∧
    (s.Inv → s.meas = Vector.replicate 10 0 ∧ s.str = Vector.replicate 17 0 ∧ s.strlen = 0 ∧ s.vmaj = 0 ∧ s.vmin = 0 ∧
      s.fallback = false)

/-- Rules 11 and 210: never both of RxByte and RxTimeout are enabled, one of them is in REQUEST_SENT, and neither is
in any other phase. That a schedule asking for an event that does not exist is refused by name is log entry 5. -/
def Obligations.TransportEventsExistOnlyInRequestSentAndExcludeEachOther : Prop :=
  ∀ s : State,
    (s.phase ≠ .requestSent → rxByte s = .refused .rxByteNotEnabled ∧ rxTimeout s = .refused .rxTimeoutNotEnabled) ∧
    (s.phase = .requestSent → s.rxq = [] → rxByte s = .refused .rxByteNotEnabled ∧ ∃ t, rxTimeout s = .next t) ∧
    (s.Inv → s.phase = .requestSent → s.rxq ≠ [] →
      rxTimeout s = .refused .rxTimeoutNotEnabled ∧ ∃ t, rxByte s = .next t)

/-- R46: at any time, in any phase, any sequence is appended to T.rxq, and nothing else changes. -/
def Obligations.SensorMayAppendAnyBytesAtAnyTime : Prop :=
  ∀ (s : State) (bs : List Byte), happen (.sensorAppend bs) s = .next { s with rxq := s.rxq ++ bs }

/-- Rule 31: in any phase Reset writes IDLE and the cleared values and does not touch the transport; the machine's
reset state has those values. That Reset leaves the model's own fields, the events still to come and the refused Issues,
as they are is no rule but log entry 18, a choice of the model. -/
def Obligations.ResetWritesTheResetValuesAndLeavesTheTransport : Prop :=
  (∀ s : State, ∃ t, happen .reset s = .next t ∧ t.Cleared ∧ t.phase = .idle ∧ t.op = .start ∧
    t.rxq = s.rxq ∧ t.txlog = s.txlog ∧ t.events = s.events ∧ t.refusedIssues = s.refusedIssues) ∧
  State.reset.Cleared ∧ State.reset.phase = .idle ∧ State.reset.op = .start

/-! ### The response and escape rows (log entries 6 and 7) -/

/-- Outside REQUEST_SENT the bytes of a response or escape row stay in T.rxq and nothing else changes (rules 46 and
252). -/
def Obligations.DeliveredBytesWaitInTheQueueOutsideRequestSent : Prop :=
  ∀ (s : State) (i : Instr) (bs : List Byte), s.phase ≠ .requestSent → deliveredBytes i = some bs →
    exec i s = .next { s with rxq := s.rxq ++ bs }

/-- While the framer waits, an escape row puts its one original byte at COUNT, whether or not a 0x7D was pending
(rules 72 and 119). -/
def Obligations.EscapeRowStoresItsOriginalByte : Prop :=
  ∀ (s : State) (n : Nat) (k : Kind), s.Waits n k → s.count + 1 < n → s.rxq = [] →
    let stored := fun o : Byte =>
      { s with rxbuf := s.rxbuf.setIfInBounds s.count o, count := s.count + 1, esc := false }
    exec .esc7E s = .next (stored 0x7E) ∧ exec .esc7D s = .next (stored 0x7D) ∧
    exec .esc11 s = .next (stored 0x11) ∧ exec .esc13 s = .next (stored 0x13)

/-- Rule 152's corner case: where one byte is missing, the 0x7D of an escape row completes the frame as its last byte
and the second byte stays in T.rxq. -/
def Obligations.EscapeRowCompletesTheFrameOnItsFirstByte : Prop :=
  ∀ (s : State) (n : Nat) (k : Kind) (i : Instr) (c : Byte),
    s.Waits n k → s.count + 1 = n → s.rxq = [] → deliveredBytes i = some [0x7D, c] →
    ∃ t, exec i s = .next t ∧ t.phase = .responseComplete ∧ t.count = n ∧ t.esc = false ∧
      t.rxbuf = s.rxbuf.setIfInBounds s.count 0x7D ∧ t.rxq = [c] ∧ t.op = s.op ∧ t.txlog = s.txlog ∧
      t.events = s.events ∧ t.refusedIssues = s.refusedIssues

/-- A measurement response that reaches a framer waiting for it, nothing received yet: rule 162's completion, for any
47 logical bytes, and its frame. -/
def Obligations.MeasurementResponseGivesItsTenWords : Prop :=
  ∀ (s : State) (f : List Byte), s.phase = .requestSent → s.op = .readValues → s.count = 0 → s.esc = false →
    s.rxq = [] → ∀ hf : f.length = 47,
    ∃ (t : State) (m : Vector Word 10), exec (.respMeasurement f) s = .next t ∧
      t = { s with
        rxbuf := Vector.mk f.toArray (by simpa using hf), count := 47, esc := false
        meas := m, fallback := false, rkind := .measurement, phase := .responseComplete } ∧
      ∀ i : Fin 10, m[i] = be32 (f[5 + 4 * i.val]'(by omega)) (f[6 + 4 * i.val]'(by omega))
        (f[7 + 4 * i.val]'(by omega)) (f[8 + 4 * i.val]'(by omega))

/-- A device-information response that reaches a framer waiting for it, nothing received yet: rule 163's completion
for any 24 logical bytes, both outcomes, and its frame. -/
def Obligations.DeviceInfoResponseGivesItsStringOrDecodeError : Prop :=
  ∀ (s : State) (f : List Byte), s.phase = .requestSent → (s.op = .readProductType ∨ s.op = .readSerialNumber) →
    s.count = 0 → s.esc = false → s.rxq = [] → ∀ hf : f.length = 24,
    ∃ buf : Vector Byte 47, buf.toList = f ++ s.rxbuf.toList.drop 24 ∧
      let done : State := { s with rxbuf := buf, count := 24, esc := false, phase := .responseComplete }
      ((∀ k : Fin 17, (f[5 + k.val]'(by omega)).toNat ≤ 127) →
        exec (.respDeviceInfo f) s = .next { done with
          str := Vector.ofFn (fun k : Fin 17 => f[5 + k.val]'(by omega)), strlen := 17, rkind := .string }) ∧
      ((∃ k : Fin 17, 128 ≤ (f[5 + k.val]'(by omega)).toNat) →
        exec (.respDeviceInfo f) s = .next { done with rkind := .decodeError })

/-- A firmware response that reaches a framer waiting for it, nothing received yet: rule 165's completion for any 14
logical bytes, and its frame. -/
def Obligations.FirmwareResponseGivesItsVersion : Prop :=
  ∀ (s : State) (f : List Byte), s.phase = .requestSent → s.op = .readFirmwareVersion →
    s.count = 0 → s.esc = false → s.rxq = [] → ∀ hf : f.length = 14,
    ∃ buf : Vector Byte 47, buf.toList = f ++ s.rxbuf.toList.drop 14 ∧
      exec (.respFirmware f) s = .next { s with
        rxbuf := buf, count := 14, esc := false
        vmaj := f[5], vmin := f[6], rkind := .version, phase := .responseComplete }

/-- In every state that meets the invariant, waiting or not, whatever is queued, a response or escape row has a next
state: the sensor's append and then as many RxByte events as are enabled (rules 46, 152 and 154), after which either
the queue is empty or the operation has ended. -/
def Obligations.DeliveryIsAnAppendAndThenRxByteEvents : Prop :=
  ∀ (s : State) (i : Instr) (bs : List Byte), s.Inv → deliveredBytes i = some bs →
    ∃ (t : State) (k : Nat), exec i s = .next t ∧ k ≤ (s.rxq ++ bs).length ∧
      t.rxq = (s.rxq ++ bs).drop k ∧ (t.phase = .requestSent → t.rxq = []) ∧
      Host.Core.run core (k + 1)
        { s with events := .sensorAppend bs :: (List.replicate k .rxByte ++ s.events) } = .next t

/-- The frame of the response and escape rows from any state: they write neither OP, nor the transmit log, nor the
model's own fields, and no result register, FALLBACK or RKIND unless they end the operation. -/
def Obligations.DeliveryWritesResultsOnlyWhenItEndsTheOperation : Prop :=
  ∀ (s t : State) (i : Instr) (bs : List Byte), deliveredBytes i = some bs → exec i s = .next t →
    t.op = s.op ∧ t.txlog = s.txlog ∧ t.events = s.events ∧ t.refusedIssues = s.refusedIssues ∧
    (t.phase = s.phase ∨ s.phase = .requestSent ∧ t.phase = .responseComplete) ∧
    (t.phase = s.phase → t.rkind = s.rkind ∧ t.fallback = s.fallback ∧ t.meas = s.meas ∧ t.str = s.str ∧
      t.strlen = s.strlen ∧ t.vmaj = s.vmaj ∧ t.vmin = s.vmin)

/-! ### Reception as a whole -/

/-- Rule 154: the result does not depend on how the raw bytes are cut into reads. -/
def Obligations.ResultDoesNotDependOnChunking : Prop :=
  ∀ (s : State) (a b : List Byte), andThen (deliver a s) (deliver b) = deliver (a ++ b) s

/-- Rule 120, marked derived: before completion the buffer holds the reversal of everything taken, COUNT its length,
and ESC says whether it ends in an unpaired 0x7D. -/
def Obligations.BufferHoldsTheReversalOfEverythingTaken : Prop :=
  ∀ (s : State) (n : Nat) (k : Kind) (r : List Byte), s.Waits n k →
    s.count = 0 → s.esc = false → s.rxq = [] → (reverseStuffing r).length < n →
    ∃ buf : Vector Byte 47,
      buf.toList = reverseStuffing r ++ s.rxbuf.toList.drop (reverseStuffing r).length ∧
      deliver r s = .next { s with
        rxbuf := buf, count := (reverseStuffing r).length, esc := endsUnpaired r }

/-- Rule 26 item 8, marked derived: a completed read of N logical bytes takes at least N and at most 2N-1 raw bytes,
ends with exactly N logical ones,
and no fewer raw bytes hold as many. -/
def Obligations.RawBytesTakenAreBetweenNAndTwoNMinusOne : Prop :=
  ∀ (q : List Byte) (n k : Nat), 0 < n → rawBytesFor q n = some k →
    n ≤ k ∧ k ≤ 2 * n - 1 ∧ k ≤ q.length ∧ (reverseStuffing (q.take k)).length = n ∧
    ∀ j < k, (reverseStuffing (q.take j)).length < n

/-- R162, the whole operation: after the Issue the sensor sends `q`; if some first part of `q` holds 47 logical bytes,
the least such part is taken, byte by byte, and its payload is the result; the rest stays in T.rxq. -/
def Obligations.ReadValuesFromRequestToResult : Prop :=
  ∀ (s : State) (q : List Byte) (k : Nat) (more : List Event), s.phase ≠ .requestSent →
    rawBytesFor q 47 = some k →
    s.events = .issue 2 :: .sensorAppend q :: (List.replicate k .rxByte ++ more) →
    ∃ (t : State) (m : Vector Word 10), Host.Core.run core (k + 2) s = .next t ∧
      t.rxbuf.toList = reverseStuffing (q.take k) ∧
      t = { s.issued .readValues .responseComplete [0x7E, 0x00, 0x03, 0x00, 0xFC, 0x7E] with
        rxbuf := t.rxbuf, count := 47, rkind := .measurement, meas := m, rxq := q.drop k, events := more } ∧
      ∀ i : Fin 10, m[i] = be32 (t.rxbuf[5 + 4 * i.val]'(by omega)) (t.rxbuf[6 + 4 * i.val]'(by omega))
        (t.rxbuf[7 + 4 * i.val]'(by omega)) (t.rxbuf[8 + 4 * i.val]'(by omega))

/-- Rules 163 and 164, the whole operation, both outcomes: the string of the seventeen payload bytes, or DecodeError
with every result register zero. -/
def Obligations.IdentificationReadFromRequestToResult : Prop :=
  ∀ (s : State) (op : Op) (f q : List Byte) (k : Nat) (more : List Event),
    (op = .readProductType ∧ f = [0x7E, 0x00, 0xD0, 0x01, 0x01, 0x2D, 0x7E] ∨
      op = .readSerialNumber ∧ f = [0x7E, 0x00, 0xD0, 0x01, 0x03, 0x2B, 0x7E]) →
    s.phase ≠ .requestSent → rawBytesFor q 24 = some k →
    s.events = .issue op.code :: .sensorAppend q :: (List.replicate k .rxByte ++ more) →
    ∃ t : State, Host.Core.run core (k + 2) s = .next t ∧
      t.rxbuf.toList = reverseStuffing (q.take k) ++ List.replicate 23 0 ∧
      ((∀ j : Fin 17, (t.rxbuf[5 + j.val]'(by omega)).toNat ≤ 127) →
        t = { s.issued op .responseComplete f with
          rxbuf := t.rxbuf, count := 24, rkind := .string, rxq := q.drop k, events := more
          str := Vector.ofFn (fun j : Fin 17 => t.rxbuf[5 + j.val]'(by omega)), strlen := 17 }) ∧
      ((∃ j : Fin 17, 128 ≤ (t.rxbuf[5 + j.val]'(by omega)).toNat) →
        t = { s.issued op .responseComplete f with
          rxbuf := t.rxbuf, count := 24, rkind := .decodeError, rxq := q.drop k, events := more })

/-- R165, the whole operation: the version of the first two payload bytes; DecodeError is never raised. -/
def Obligations.FirmwareReadFromRequestToResult : Prop :=
  ∀ (s : State) (q : List Byte) (k : Nat) (more : List Event), s.phase ≠ .requestSent →
    rawBytesFor q 14 = some k →
    s.events = .issue 5 :: .sensorAppend q :: (List.replicate k .rxByte ++ more) →
    ∃ t : State, Host.Core.run core (k + 2) s = .next t ∧
      t.rxbuf.toList = reverseStuffing (q.take k) ++ List.replicate 33 0 ∧
      t = { s.issued .readFirmwareVersion .responseComplete [0x7E, 0x00, 0xD1, 0x00, 0x2E, 0x7E] with
        rxbuf := t.rxbuf, count := 14, rkind := .version, rxq := q.drop k, events := more
        vmaj := t.rxbuf[5], vmin := t.rxbuf[6] }

/-- Rules 153, 158, 159 and 202 for all four reading operations: if no first part of what the sensor sends holds N
logical bytes, all of it is taken and the Timeout discards it; only the command frame remains. -/
def Obligations.ShortResponseEndsInTimeoutWithoutPartialData : Prop :=
  ∀ (s : State) (op : Op) (r : Response) (f q : List Byte) (more : List Event), s.phase ≠ .requestSent →
    op.response = some r → buildFrame (descriptor op).cmd (descriptor op).subcommand (descriptor op).args = some f →
    rawBytesFor q r.n = none →
    s.events = .issue op.code :: .sensorAppend q :: (List.replicate q.length .rxByte ++ .rxTimeout :: more) →
    Host.Core.run core (q.length + 3) s =
      .next { s.issued op .timedOut f with rkind := .timeout, events := more }

/-- Rules 86 and 207: header and trailer have no part in a result; two responses with the same payload leave the same
result registers, RKIND and FALLBACK. -/
def Obligations.HeaderAndTrailerHaveNoPartInTheResult : Prop :=
  ∀ (s t u : State) (n : Nat) (k : Kind) (i j : Instr) (h h' p e e' : List Byte),
    s.Waits n k → s.count = 0 → s.esc = false → s.rxq = [] →
    h.length = 5 → h'.length = 5 → e.length = 2 → e'.length = 2 → p.length + 7 = n →
    deliveredBytes i = some (wire (h ++ p ++ e)) → deliveredBytes j = some (wire (h' ++ p ++ e')) →
    exec i s = .next t → exec j s = .next u →
    t.phase = .responseComplete ∧ u.phase = .responseComplete ∧
    t.rkind = u.rkind ∧ t.fallback = u.fallback ∧ t.meas = u.meas ∧ t.str = u.str ∧ t.strlen = u.strlen ∧
    t.vmaj = u.vmaj ∧ t.vmin = u.vmin

/-! ### The machine -/

/-- A step is the next event, in the state whose later events are the rest; where that event is an image that decodes,
or a host code, it is exec of that instruction. -/
def Obligations.StepRunsTheDecodedInstruction : Prop :=
  ∀ (s : State) (more : List Event),
    (∀ e : Event, s.events = e :: more → step s = happen e { s with events := more }) ∧
    (∀ (w : List Byte) (i : Instr), s.events = .image w :: more → decode w = .ok i →
      step s = exec i { s with events := more }) ∧
    (∀ c : BitVec 3, s.events = .issue c :: more → step s = exec (instrOfCode c) { s with events := more }) ∧
    (∀ (n w : Nat) (i : Instr), decodeTableWord n w = some i → step (s.withFetchWord n w) = exec i s)

/-- With no event to come the machine stays as it is (rules 10 and 240); an image that is no row of the table is
refused by name (log entry 8). -/
def Obligations.MachineRestsWithoutEventsAndRefusesUnknownImages : Prop :=
  ∀ s : State, (s.events = [] → step s = .next s) ∧
    (∀ (w : List Byte) (more : List Event) (e : DecodeReject), s.events = .image w :: more → decode w = .error e →
      step s = .refused (.undecodable e))

/-- R166: every transition of PHASE, event by event; no other exists. -/
def Obligations.PhaseMovesOnlyAlongTheTable : Prop :=
  ∀ (s t : State) (e : Event) (more : List Event), s.Inv → s.events = e :: more → step s = .next t →
    (∀ c, issuedCode e = some c → IssueMovesPhase c s t) ∧
    (e = .rxByte → s.phase = .requestSent ∧ ∃ r, s.op.response = some r ∧
      (t.phase = .requestSent ∧ t.count < r.n ∨ t.phase = .responseComplete ∧ t.count = r.n)) ∧
    (e = .rxTimeout → s.phase = .requestSent ∧ s.rxq = [] ∧ t.phase = .timedOut) ∧
    (∀ bs, e = .sensorAppend bs → t.phase = s.phase) ∧
    (e = .reset → t.phase = .idle) ∧
    (∀ w i bs, e = .image w → decode w = .ok i → deliveredBytes i = some bs →
      t.phase = s.phase ∨ s.phase = .requestSent ∧ t.phase = .responseComplete)

/-- Rules 45, 48, 55 and 61. An accepted Issue (in a phase but REQUEST_SENT, of an operation's code) appends its whole
frame to the log and empties T.rxq. Every other event leaves the log alone, appends its own bytes at the end of T.rxq
and takes bytes from its head only: one by RxByte, any number by a response or escape row (log entries 6 and 7), none by
any other event (a refused Issue is one, log entry 4), and none at all outside REQUEST_SENT. -/
def Obligations.TransportStreamsKeepTheirDiscipline : Prop :=
  ∀ (s t : State) (e : Event) (more : List Event), s.events = e :: more → step s = .next t →
    (∀ op : Op, s.phase ≠ .requestSent → issuedCode e = some op.code →
      ∃ f, buildFrame (descriptor op).cmd (descriptor op).subcommand (descriptor op).args = some f ∧
        t.txlog = s.txlog ++ f ∧ t.rxq = []) ∧
    ((s.phase = .requestSent ∨ ∀ op : Op, issuedCode e ≠ some op.code) →
      t.txlog = s.txlog ∧ ∃ k, k ≤ (s.rxq ++ appendedBytes e).length ∧ t.rxq = (s.rxq ++ appendedBytes e).drop k ∧
        (e = .rxByte → k = 1) ∧ (s.phase ≠ .requestSent → k = 0) ∧
        (e ≠ .rxByte → (∀ w, e ≠ .image w) → k = 0) ∧ (∀ c, issuedCode e = some c → k = 0))

/-- The invariants of rule 26 (marked derived) and the promises of rules 19, 21 and 23 hold after reset. -/
def Obligations.ResetStateMeetsTheInvariants : Prop := State.reset.Inv

/-- Every step of every event, from every state that meets the invariants of rule 26, gives a state that meets them. -/
def Obligations.EveryStepKeepsTheInvariants : Prop :=
  ∀ s t : State, s.Inv → step s = .next t → t.Inv

/-- From a state that meets the invariants a step never faults, and stops only on a transport event that does not
exist or an image that is no row of the table. -/
def Obligations.NoFaultAndNoOtherStopFromAnInvariantState : Prop :=
  ∀ s : State, s.Inv →
    (∃ t, step s = .next t) ∨
    (∃ more, s.events = .rxByte :: more ∧ (s.phase ≠ .requestSent ∨ s.rxq = []) ∧
      step s = .refused .rxByteNotEnabled) ∨
    (∃ more, s.events = .rxTimeout :: more ∧ (s.phase ≠ .requestSent ∨ s.rxq ≠ []) ∧
      step s = .refused .rxTimeoutNotEnabled) ∨
    (∃ w more e, s.events = .image w :: more ∧ decode w = .error e ∧ step s = .refused (.undecodable e))

/-- Rule 168, row by row: in a terminal phase RKIND is one of those the rows of the operation name, and the caller gets
that row's value; no other combination is reachable. -/
def Obligations.CallerGetsExactlyTheResultsOfItsOperation : Prop :=
  ∀ s : State, s.Inv → done s = true →
    match s.op with
    | .start | .stop => s.rkind = .noResult ∧ apiResult s = some .nothing
    | .readValues =>
      s.rkind = .measurement ∧ s.fallback = false ∧ apiResult s = some (.measurement s.meas s.fallback) ∨
      s.rkind = .timeout ∧ apiResult s = some .timeout
    | .readProductType | .readSerialNumber =>
      s.rkind = .string ∧ s.strlen = 17 ∧ apiResult s = some (.string (s.str.toList.take s.strlen.toNat)) ∨
      s.rkind = .timeout ∧ apiResult s = some .timeout ∨
      s.rkind = .decodeError ∧ apiResult s = some .decodeError
    | .readFirmwareVersion =>
      s.rkind = .version ∧ apiResult s = some (.string (formatVersion s.vmaj.toInt s.vmin.toInt)) ∨
      s.rkind = .timeout ∧ apiResult s = some .timeout

/-- Rules 23 and 30: what a host reads from a register that RKIND says is not meaningful is zero. That the model takes
the zero of these rules, and not the stricter model that rule 33 allows, is its choice, log entry 16. -/
def Obligations.RegistersNotMeaningfulReadZero : Prop :=
  ∀ s : State, s.Inv → hostRead .fallback s = 0 ∧
    (hostRead .rkind s ≠ 1 → ∀ i, hostRead (.meas i) s = 0) ∧
    (hostRead .rkind s ≠ 2 → (∀ i, hostRead (.str i) s = 0) ∧ hostRead .strlen s = 0) ∧
    (hostRead .rkind s ≠ 3 → hostRead .vmaj s = 0 ∧ hostRead .vmin s = 0)

/-- What a host reads in any state: OP, PHASE and RKIND by their codes (rules 81, 14 and 15), FALLBACK as a bit (rule
16), the words, characters and length as the unsigned numbers they are (rules 20 and 21), VMAJ and VMIN as signed bytes
(rule 22; that signed means two's complement is general knowledge, log entry 15); and where RKIND says STRING, seventeen
7-bit characters (rule 21). That a read is a function of the state is log entry 20. -/
def Obligations.HostReadsShowTheRegistersInTheirCodes : Prop :=
  ∀ s : State,
    hostRead .op s = (match s.op with
      | .start => 0
      | .stop => 1
      | .readValues => 2
      | .readProductType => 3
      | .readSerialNumber => 4
      | .readFirmwareVersion => 5) ∧
    hostRead .phase s = (match s.phase with
      | .idle => 0
      | .requestSent => 1
      | .responseComplete => 2
      | .timedOut => 3) ∧
    hostRead .rkind s = (match s.rkind with
      | .noResult => 0
      | .measurement => 1
      | .string => 2
      | .version => 3
      | .timeout => 4
      | .decodeError => 5) ∧
    hostRead .fallback s = (if s.fallback then 1 else 0) ∧
    (∀ i, hostRead (.meas i) s = s.meas[i].toNat) ∧
    (∀ i, hostRead (.str i) s = s.str[i].toNat) ∧ hostRead .strlen s = s.strlen.toNat ∧
    hostRead .vmaj s = (if s.vmaj.toNat ≤ 127 then (s.vmaj.toNat : Int) else s.vmaj.toNat - 256) ∧
    hostRead .vmin s = (if s.vmin.toNat ≤ 127 then (s.vmin.toNat : Int) else s.vmin.toNat - 256) ∧
    (s.Inv → hostRead .rkind s = 2 → hostRead .strlen s = 17 ∧ ∀ i, hostRead (.str i) s ≤ 127)
end

