-- ==== Sys2Proof/Laws/Codec.lean ====
section
/-! SUPPORT. What the codec's functions do, one lemma per shape of argument: the escape table, stuffing reversal at the
head and at the end of a sequence, and stuffed bytes before raw ones. -/

namespace Sys2Proof.Machine

/-- The rows of the escape table, read forwards (R72). -/
theorem esc_eq_some_iff (b c : Byte) :
    esc b = some c ↔ (b = 0x7E ∧ c = 0x5E) ∨ (b = 0x7D ∧ c = 0x5D) ∨ (b = 0x11 ∧ c = 0x31) ∨ (b = 0x13 ∧ c = 0x33) := by
  unfold esc; split_ifs <;> simp_all [eq_comm]

/-- The rows of the escape table, read backwards (R72). -/
theorem unesc_eq_some_iff (c b : Byte) :
    unesc c = some b ↔ (b = 0x7E ∧ c = 0x5E) ∨ (b = 0x7D ∧ c = 0x5D) ∨ (b = 0x11 ∧ c = 0x31) ∨ (b = 0x13 ∧ c = 0x33) := by
  unfold unesc; split_ifs <;> simp_all [eq_comm]

/-- `esc` and `unesc` are inverse (R72). -/
theorem esc_eq_some_iff_unesc (b c : Byte) : esc b = some c ↔ unesc c = some b := by
  rw [esc_eq_some_iff, unesc_eq_some_iff]

/-- 0x7D is the second byte of no escape sequence (R114). -/
theorem unesc_escByte : unesc escByte = none := by decide
theorem esc_escByte : esc escByte = some 0x5D := by decide

theorem ne_escByte_of_esc_none {b : Byte} (h : esc b = none) : b ≠ escByte := by
  rintro rfl; simp [esc_escByte] at h

theorem reverseStuffing_lone {b : Byte} (h : b ≠ escByte) (t : List Byte) :
    reverseStuffing (b :: t) = b :: reverseStuffing t := by
  cases t <;> simp [reverseStuffing, h]

theorem reverseStuffing_pair {c o : Byte} (h : unesc c = some o) (t : List Byte) :
    reverseStuffing (escByte :: c :: t) = o :: reverseStuffing t := by
  simp [reverseStuffing, h]

theorem reverseStuffing_keep {c : Byte} (h : unesc c = none) (t : List Byte) :
    reverseStuffing (escByte :: c :: t) = escByte :: reverseStuffing (c :: t) := by
  simp [reverseStuffing, h]

theorem endsUnpaired_lone {b : Byte} (h : b ≠ escByte) (t : List Byte) :
    endsUnpaired (b :: t) = endsUnpaired t := by
  cases t <;> simp [endsUnpaired, h]

theorem endsUnpaired_pair {c o : Byte} (h : unesc c = some o) (t : List Byte) :
    endsUnpaired (escByte :: c :: t) = endsUnpaired t := by
  simp [endsUnpaired, h]

theorem endsUnpaired_keep {c : Byte} (h : unesc c = none) (t : List Byte) :
    endsUnpaired (escByte :: c :: t) = endsUnpaired (c :: t) := by
  simp [endsUnpaired, h]

/-- The three ways a raw sequence can begin. -/
theorem raw_cases (b : Byte) (t : List Byte) :
    b ≠ escByte ∨ (b = escByte ∧ t = []) ∨ (b = escByte ∧ ∃ c u o, t = c :: u ∧ unesc c = some o) ∨
      (b = escByte ∧ ∃ c u, t = c :: u ∧ unesc c = none) := by
  by_cases h : b = escByte
  · cases t with
    | nil => simp [h]
    | cons c u => cases hc : unesc c <;> simp [h, hc]
  · simp [h]

/-- Reversal of a sequence that goes on without splitting an escape sequence (R118). -/
theorem reverseStuffing_append {a r : List Byte} (h : endsUnpaired a = false ∨ ∀ c t, r = c :: t → unesc c = none) :
    reverseStuffing (a ++ r) = reverseStuffing a ++ reverseStuffing r := by
  induction a using reverseStuffing.induct with
  | case1 => simp [reverseStuffing]
  | case2 x =>
    by_cases hx : x = escByte
    · subst hx
      cases r with
      | nil => simp [reverseStuffing]
      | cons c t =>
        have hc : unesc c = none := by simpa [endsUnpaired] using h
        simp only [List.singleton_append, reverseStuffing_keep hc]; rfl
    · simp [reverseStuffing_lone hx, reverseStuffing]
  | case3 c' t o h' ih =>
    rw [endsUnpaired_pair h'] at h
    simp [reverseStuffing_pair h', ih h]
  | case4 c' t h' ih =>
    rw [endsUnpaired_keep h'] at h
    have := ih h
    simp only [List.cons_append] at this
    simp [reverseStuffing_keep h', this]
  | case5 x c' t h' ih =>
    rw [endsUnpaired_lone h'] at h
    have := ih h
    simp only [List.cons_append] at this
    simp [reverseStuffing_lone h', this]

/-- An unpaired last 7D is emitted as 7D, and a table byte after it turns it into the original (R117). -/
theorem reverseStuffing_append_split {a : List Byte} (h : endsUnpaired a = true) :
    ∃ l, reverseStuffing a = l ++ [escByte] ∧ ∀ c o t, unesc c = some o →
      reverseStuffing (a ++ c :: t) = l ++ o :: reverseStuffing t := by
  induction a using reverseStuffing.induct with
  | case1 => simp [endsUnpaired] at h
  | case2 x =>
    have hx : x = escByte := by simpa [endsUnpaired] using h
    subst hx
    exact ⟨[], rfl, fun c o t hc => by simpa using reverseStuffing_pair hc t⟩
  | case3 c' t o h' ih =>
    rw [endsUnpaired_pair h'] at h
    obtain ⟨l, h1, h2⟩ := ih h
    exact ⟨o :: l, by simp [reverseStuffing_pair h', h1], fun c o t hc => by
      simp [reverseStuffing_pair h', h2 c o t hc]⟩
  | case4 c' t h' ih =>
    rw [endsUnpaired_keep h'] at h
    obtain ⟨l, h1, h2⟩ := ih h
    refine ⟨escByte :: l, by simp [reverseStuffing_keep h', h1], fun c o t hc => ?_⟩
    have := h2 c o t hc
    simp only [List.cons_append] at this ⊢
    rw [reverseStuffing_keep h', this]
  | case5 x c' t h' ih =>
    rw [endsUnpaired_lone h'] at h
    obtain ⟨l, h1, h2⟩ := ih h
    refine ⟨x :: l, by simp [reverseStuffing_lone h', h1], fun c o t hc => ?_⟩
    have := h2 c o t hc
    simp only [List.cons_append] at this ⊢
    rw [reverseStuffing_lone h', this]

/-- Going on without splitting an escape sequence, only the end matters (R117). -/
theorem endsUnpaired_append {a r : List Byte} (h : endsUnpaired a = false ∨ ∀ c t, r = c :: t → unesc c = none) (hr : r ≠ []) :
    endsUnpaired (a ++ r) = endsUnpaired r := by
  induction a using reverseStuffing.induct with
  | case1 => simp
  | case2 x =>
    by_cases hx : x = escByte
    · subst hx
      cases r with
      | nil => simp at hr
      | cons c t =>
        have hc : unesc c = none := by simpa [endsUnpaired] using h
        simp [endsUnpaired_keep hc]
    · simp [endsUnpaired_lone hx]
  | case3 c' t o h' ih =>
    rw [endsUnpaired_pair h'] at h
    simp [endsUnpaired_pair h', ih h]
  | case4 c' t h' ih =>
    rw [endsUnpaired_keep h'] at h
    have := ih h
    simp only [List.cons_append] at this
    simp [endsUnpaired_keep h', this]
  | case5 x c' t h' ih =>
    rw [endsUnpaired_lone h'] at h
    have := ih h
    simp only [List.cons_append] at this
    simp [endsUnpaired_lone h', this]

/-- A table byte pairs the unpaired last 7D (R117). -/
theorem endsUnpaired_append_split {a : List Byte} (h : endsUnpaired a = true) {c o : Byte} (hc : unesc c = some o) (t : List Byte) :
    endsUnpaired (a ++ c :: t) = endsUnpaired t := by
  induction a using reverseStuffing.induct with
  | case1 => simp [endsUnpaired] at h
  | case2 x =>
    have hx : x = escByte := by simpa [endsUnpaired] using h
    subst hx
    simp [endsUnpaired_pair hc]
  | case3 c' t o h' ih =>
    rw [endsUnpaired_pair h'] at h
    simp [endsUnpaired_pair h', ih h]
  | case4 c' t h' ih =>
    rw [endsUnpaired_keep h'] at h
    have := ih h
    simp only [List.cons_append] at this
    simp [endsUnpaired_keep h', this]
  | case5 x c' t h' ih =>
    rw [endsUnpaired_lone h'] at h
    have := ih h
    simp only [List.cons_append] at this
    simp [endsUnpaired_lone h', this]

theorem forwardStuff_append (s t : List Byte) : forwardStuff (s ++ t) = forwardStuff s ++ forwardStuff t := by
  induction s with
  | nil => rfl
  | cons b s ih => simp only [List.cons_append, forwardStuff]; split <;> simp [ih]

/-- Stuffed bytes before any raw bytes reverse to the bytes themselves. -/
theorem reverseStuffing_forwardStuff_append (s r : List Byte) :
    reverseStuffing (forwardStuff s ++ r) = s ++ reverseStuffing r := by
  induction s with
  | nil => rfl
  | cons b s ih =>
    simp only [forwardStuff]
    split
    · rename_i c h
      simp [reverseStuffing_pair ((esc_eq_some_iff_unesc _ _).1 h), ih]
    · rename_i h
      simp [reverseStuffing_lone (ne_escByte_of_esc_none h), ih]

end Sys2Proof.Machine
end

