-- ==== Sys2Proof/Laws/State.lean ====
section
/-! SUPPORT. One lemma per field per update of the state, true by unfolding, so that no proof unfolds a record update. -/

namespace Sys2Proof.Machine

variable (s : State)

/-! `setOp`: OP <- op. -/

@[simp] theorem State.setOp_op (op : Op) : (s.setOp op).op = op := rfl
@[simp] theorem State.setOp_phase (op : Op) : (s.setOp op).phase = s.phase := rfl
@[simp] theorem State.setOp_rkind (op : Op) : (s.setOp op).rkind = s.rkind := rfl
@[simp] theorem State.setOp_fallback (op : Op) : (s.setOp op).fallback = s.fallback := rfl
@[simp] theorem State.setOp_esc (op : Op) : (s.setOp op).esc = s.esc := rfl
@[simp] theorem State.setOp_count (op : Op) : (s.setOp op).count = s.count := rfl
@[simp] theorem State.setOp_rxbuf (op : Op) : (s.setOp op).rxbuf = s.rxbuf := rfl
@[simp] theorem State.setOp_meas (op : Op) : (s.setOp op).meas = s.meas := rfl
@[simp] theorem State.setOp_str (op : Op) : (s.setOp op).str = s.str := rfl
@[simp] theorem State.setOp_strlen (op : Op) : (s.setOp op).strlen = s.strlen := rfl
@[simp] theorem State.setOp_vmaj (op : Op) : (s.setOp op).vmaj = s.vmaj := rfl
@[simp] theorem State.setOp_vmin (op : Op) : (s.setOp op).vmin = s.vmin := rfl
@[simp] theorem State.setOp_rxq (op : Op) : (s.setOp op).rxq = s.rxq := rfl
@[simp] theorem State.setOp_txlog (op : Op) : (s.setOp op).txlog = s.txlog := rfl
@[simp] theorem State.setOp_events (op : Op) : (s.setOp op).events = s.events := rfl
@[simp] theorem State.setOp_refusedIssues (op : Op) : (s.setOp op).refusedIssues = s.refusedIssues := rfl

/-! `setPhase`: PHASE <- p. -/

@[simp] theorem State.setPhase_op (p : Phase) : (s.setPhase p).op = s.op := rfl
@[simp] theorem State.setPhase_phase (p : Phase) : (s.setPhase p).phase = p := rfl
@[simp] theorem State.setPhase_rkind (p : Phase) : (s.setPhase p).rkind = s.rkind := rfl
@[simp] theorem State.setPhase_fallback (p : Phase) : (s.setPhase p).fallback = s.fallback := rfl
@[simp] theorem State.setPhase_esc (p : Phase) : (s.setPhase p).esc = s.esc := rfl
@[simp] theorem State.setPhase_count (p : Phase) : (s.setPhase p).count = s.count := rfl
@[simp] theorem State.setPhase_rxbuf (p : Phase) : (s.setPhase p).rxbuf = s.rxbuf := rfl
@[simp] theorem State.setPhase_meas (p : Phase) : (s.setPhase p).meas = s.meas := rfl
@[simp] theorem State.setPhase_str (p : Phase) : (s.setPhase p).str = s.str := rfl
@[simp] theorem State.setPhase_strlen (p : Phase) : (s.setPhase p).strlen = s.strlen := rfl
@[simp] theorem State.setPhase_vmaj (p : Phase) : (s.setPhase p).vmaj = s.vmaj := rfl
@[simp] theorem State.setPhase_vmin (p : Phase) : (s.setPhase p).vmin = s.vmin := rfl
@[simp] theorem State.setPhase_rxq (p : Phase) : (s.setPhase p).rxq = s.rxq := rfl
@[simp] theorem State.setPhase_txlog (p : Phase) : (s.setPhase p).txlog = s.txlog := rfl
@[simp] theorem State.setPhase_events (p : Phase) : (s.setPhase p).events = s.events := rfl
@[simp] theorem State.setPhase_refusedIssues (p : Phase) : (s.setPhase p).refusedIssues = s.refusedIssues := rfl

/-! `setRxq`: T.rxq <- q. -/

@[simp] theorem State.setRxq_op (q : List Byte) : (s.setRxq q).op = s.op := rfl
@[simp] theorem State.setRxq_phase (q : List Byte) : (s.setRxq q).phase = s.phase := rfl
@[simp] theorem State.setRxq_rkind (q : List Byte) : (s.setRxq q).rkind = s.rkind := rfl
@[simp] theorem State.setRxq_fallback (q : List Byte) : (s.setRxq q).fallback = s.fallback := rfl
@[simp] theorem State.setRxq_esc (q : List Byte) : (s.setRxq q).esc = s.esc := rfl
@[simp] theorem State.setRxq_count (q : List Byte) : (s.setRxq q).count = s.count := rfl
@[simp] theorem State.setRxq_rxbuf (q : List Byte) : (s.setRxq q).rxbuf = s.rxbuf := rfl
@[simp] theorem State.setRxq_meas (q : List Byte) : (s.setRxq q).meas = s.meas := rfl
@[simp] theorem State.setRxq_str (q : List Byte) : (s.setRxq q).str = s.str := rfl
@[simp] theorem State.setRxq_strlen (q : List Byte) : (s.setRxq q).strlen = s.strlen := rfl
@[simp] theorem State.setRxq_vmaj (q : List Byte) : (s.setRxq q).vmaj = s.vmaj := rfl
@[simp] theorem State.setRxq_vmin (q : List Byte) : (s.setRxq q).vmin = s.vmin := rfl
@[simp] theorem State.setRxq_rxq (q : List Byte) : (s.setRxq q).rxq = q := rfl
@[simp] theorem State.setRxq_txlog (q : List Byte) : (s.setRxq q).txlog = s.txlog := rfl
@[simp] theorem State.setRxq_events (q : List Byte) : (s.setRxq q).events = s.events := rfl
@[simp] theorem State.setRxq_refusedIssues (q : List Byte) : (s.setRxq q).refusedIssues = s.refusedIssues := rfl

/-! `setEvents`: the events still to come. -/

@[simp] theorem State.setEvents_op (es : List Event) : (s.setEvents es).op = s.op := rfl
@[simp] theorem State.setEvents_phase (es : List Event) : (s.setEvents es).phase = s.phase := rfl
@[simp] theorem State.setEvents_rkind (es : List Event) : (s.setEvents es).rkind = s.rkind := rfl
@[simp] theorem State.setEvents_fallback (es : List Event) : (s.setEvents es).fallback = s.fallback := rfl
@[simp] theorem State.setEvents_esc (es : List Event) : (s.setEvents es).esc = s.esc := rfl
@[simp] theorem State.setEvents_count (es : List Event) : (s.setEvents es).count = s.count := rfl
@[simp] theorem State.setEvents_rxbuf (es : List Event) : (s.setEvents es).rxbuf = s.rxbuf := rfl
@[simp] theorem State.setEvents_meas (es : List Event) : (s.setEvents es).meas = s.meas := rfl
@[simp] theorem State.setEvents_str (es : List Event) : (s.setEvents es).str = s.str := rfl
@[simp] theorem State.setEvents_strlen (es : List Event) : (s.setEvents es).strlen = s.strlen := rfl
@[simp] theorem State.setEvents_vmaj (es : List Event) : (s.setEvents es).vmaj = s.vmaj := rfl
@[simp] theorem State.setEvents_vmin (es : List Event) : (s.setEvents es).vmin = s.vmin := rfl
@[simp] theorem State.setEvents_rxq (es : List Event) : (s.setEvents es).rxq = s.rxq := rfl
@[simp] theorem State.setEvents_txlog (es : List Event) : (s.setEvents es).txlog = s.txlog := rfl
@[simp] theorem State.setEvents_events (es : List Event) : (s.setEvents es).events = es := rfl
@[simp] theorem State.setEvents_refusedIssues (es : List Event) : (s.setEvents es).refusedIssues = s.refusedIssues := rfl

/-! `clearOperation`: the cleared values of R30. -/

@[simp] theorem State.clearOperation_op : s.clearOperation.op = s.op := rfl
@[simp] theorem State.clearOperation_phase : s.clearOperation.phase = s.phase := rfl
@[simp] theorem State.clearOperation_rkind : s.clearOperation.rkind = .noResult := rfl
@[simp] theorem State.clearOperation_fallback : s.clearOperation.fallback = false := rfl
@[simp] theorem State.clearOperation_esc : s.clearOperation.esc = false := rfl
@[simp] theorem State.clearOperation_count : s.clearOperation.count = 0 := rfl
@[simp] theorem State.clearOperation_rxbuf : s.clearOperation.rxbuf = Vector.replicate 47 0 := rfl
@[simp] theorem State.clearOperation_meas : s.clearOperation.meas = Vector.replicate 10 0 := rfl
@[simp] theorem State.clearOperation_str : s.clearOperation.str = Vector.replicate 17 0 := rfl
@[simp] theorem State.clearOperation_strlen : s.clearOperation.strlen = 0 := rfl
@[simp] theorem State.clearOperation_vmaj : s.clearOperation.vmaj = 0 := rfl
@[simp] theorem State.clearOperation_vmin : s.clearOperation.vmin = 0 := rfl
@[simp] theorem State.clearOperation_rxq : s.clearOperation.rxq = s.rxq := rfl
@[simp] theorem State.clearOperation_txlog : s.clearOperation.txlog = s.txlog := rfl
@[simp] theorem State.clearOperation_events : s.clearOperation.events = s.events := rfl
@[simp] theorem State.clearOperation_refusedIssues : s.clearOperation.refusedIssues = s.refusedIssues := rfl

/-! `flushInput`: R150. -/

@[simp] theorem State.flushInput_op : s.flushInput.op = s.op := rfl
@[simp] theorem State.flushInput_phase : s.flushInput.phase = s.phase := rfl
@[simp] theorem State.flushInput_rkind : s.flushInput.rkind = s.rkind := rfl
@[simp] theorem State.flushInput_fallback : s.flushInput.fallback = s.fallback := rfl
@[simp] theorem State.flushInput_esc : s.flushInput.esc = s.esc := rfl
@[simp] theorem State.flushInput_count : s.flushInput.count = s.count := rfl
@[simp] theorem State.flushInput_rxbuf : s.flushInput.rxbuf = s.rxbuf := rfl
@[simp] theorem State.flushInput_meas : s.flushInput.meas = s.meas := rfl
@[simp] theorem State.flushInput_str : s.flushInput.str = s.str := rfl
@[simp] theorem State.flushInput_strlen : s.flushInput.strlen = s.strlen := rfl
@[simp] theorem State.flushInput_vmaj : s.flushInput.vmaj = s.vmaj := rfl
@[simp] theorem State.flushInput_vmin : s.flushInput.vmin = s.vmin := rfl
@[simp] theorem State.flushInput_rxq : s.flushInput.rxq = [] := rfl
@[simp] theorem State.flushInput_txlog : s.flushInput.txlog = s.txlog := rfl
@[simp] theorem State.flushInput_events : s.flushInput.events = s.events := rfl
@[simp] theorem State.flushInput_refusedIssues : s.flushInput.refusedIssues = s.refusedIssues := rfl

/-! `writeFrame`: R151. -/

@[simp] theorem State.writeFrame_op (f : List Byte) : (s.writeFrame f).op = s.op := rfl
@[simp] theorem State.writeFrame_phase (f : List Byte) : (s.writeFrame f).phase = s.phase := rfl
@[simp] theorem State.writeFrame_rkind (f : List Byte) : (s.writeFrame f).rkind = s.rkind := rfl
@[simp] theorem State.writeFrame_fallback (f : List Byte) : (s.writeFrame f).fallback = s.fallback := rfl
@[simp] theorem State.writeFrame_esc (f : List Byte) : (s.writeFrame f).esc = s.esc := rfl
@[simp] theorem State.writeFrame_count (f : List Byte) : (s.writeFrame f).count = s.count := rfl
@[simp] theorem State.writeFrame_rxbuf (f : List Byte) : (s.writeFrame f).rxbuf = s.rxbuf := rfl
@[simp] theorem State.writeFrame_meas (f : List Byte) : (s.writeFrame f).meas = s.meas := rfl
@[simp] theorem State.writeFrame_str (f : List Byte) : (s.writeFrame f).str = s.str := rfl
@[simp] theorem State.writeFrame_strlen (f : List Byte) : (s.writeFrame f).strlen = s.strlen := rfl
@[simp] theorem State.writeFrame_vmaj (f : List Byte) : (s.writeFrame f).vmaj = s.vmaj := rfl
@[simp] theorem State.writeFrame_vmin (f : List Byte) : (s.writeFrame f).vmin = s.vmin := rfl
@[simp] theorem State.writeFrame_rxq (f : List Byte) : (s.writeFrame f).rxq = s.rxq := rfl
@[simp] theorem State.writeFrame_txlog (f : List Byte) : (s.writeFrame f).txlog = s.txlog ++ f := rfl
@[simp] theorem State.writeFrame_events (f : List Byte) : (s.writeFrame f).events = s.events := rfl
@[simp] theorem State.writeFrame_refusedIssues (f : List Byte) : (s.writeFrame f).refusedIssues = s.refusedIssues := rfl

/-! `sensorAppend`: R46. -/

@[simp] theorem State.sensorAppend_op (bs : List Byte) : (s.sensorAppend bs).op = s.op := rfl
@[simp] theorem State.sensorAppend_phase (bs : List Byte) : (s.sensorAppend bs).phase = s.phase := rfl
@[simp] theorem State.sensorAppend_rkind (bs : List Byte) : (s.sensorAppend bs).rkind = s.rkind := rfl
@[simp] theorem State.sensorAppend_fallback (bs : List Byte) : (s.sensorAppend bs).fallback = s.fallback := rfl
@[simp] theorem State.sensorAppend_esc (bs : List Byte) : (s.sensorAppend bs).esc = s.esc := rfl
@[simp] theorem State.sensorAppend_count (bs : List Byte) : (s.sensorAppend bs).count = s.count := rfl
@[simp] theorem State.sensorAppend_rxbuf (bs : List Byte) : (s.sensorAppend bs).rxbuf = s.rxbuf := rfl
@[simp] theorem State.sensorAppend_meas (bs : List Byte) : (s.sensorAppend bs).meas = s.meas := rfl
@[simp] theorem State.sensorAppend_str (bs : List Byte) : (s.sensorAppend bs).str = s.str := rfl
@[simp] theorem State.sensorAppend_strlen (bs : List Byte) : (s.sensorAppend bs).strlen = s.strlen := rfl
@[simp] theorem State.sensorAppend_vmaj (bs : List Byte) : (s.sensorAppend bs).vmaj = s.vmaj := rfl
@[simp] theorem State.sensorAppend_vmin (bs : List Byte) : (s.sensorAppend bs).vmin = s.vmin := rfl
@[simp] theorem State.sensorAppend_rxq (bs : List Byte) : (s.sensorAppend bs).rxq = s.rxq ++ bs := rfl
@[simp] theorem State.sensorAppend_txlog (bs : List Byte) : (s.sensorAppend bs).txlog = s.txlog := rfl
@[simp] theorem State.sensorAppend_events (bs : List Byte) : (s.sensorAppend bs).events = s.events := rfl
@[simp] theorem State.sensorAppend_refusedIssues (bs : List Byte) : (s.sensorAppend bs).refusedIssues = s.refusedIssues := rfl

/-! `refuseIssue`: R156, R157. -/

@[simp] theorem State.refuseIssue_op (c : BitVec 3) : (s.refuseIssue c).op = s.op := rfl
@[simp] theorem State.refuseIssue_phase (c : BitVec 3) : (s.refuseIssue c).phase = s.phase := rfl
@[simp] theorem State.refuseIssue_rkind (c : BitVec 3) : (s.refuseIssue c).rkind = s.rkind := rfl
@[simp] theorem State.refuseIssue_fallback (c : BitVec 3) : (s.refuseIssue c).fallback = s.fallback := rfl
@[simp] theorem State.refuseIssue_esc (c : BitVec 3) : (s.refuseIssue c).esc = s.esc := rfl
@[simp] theorem State.refuseIssue_count (c : BitVec 3) : (s.refuseIssue c).count = s.count := rfl
@[simp] theorem State.refuseIssue_rxbuf (c : BitVec 3) : (s.refuseIssue c).rxbuf = s.rxbuf := rfl
@[simp] theorem State.refuseIssue_meas (c : BitVec 3) : (s.refuseIssue c).meas = s.meas := rfl
@[simp] theorem State.refuseIssue_str (c : BitVec 3) : (s.refuseIssue c).str = s.str := rfl
@[simp] theorem State.refuseIssue_strlen (c : BitVec 3) : (s.refuseIssue c).strlen = s.strlen := rfl
@[simp] theorem State.refuseIssue_vmaj (c : BitVec 3) : (s.refuseIssue c).vmaj = s.vmaj := rfl
@[simp] theorem State.refuseIssue_vmin (c : BitVec 3) : (s.refuseIssue c).vmin = s.vmin := rfl
@[simp] theorem State.refuseIssue_rxq (c : BitVec 3) : (s.refuseIssue c).rxq = s.rxq := rfl
@[simp] theorem State.refuseIssue_txlog (c : BitVec 3) : (s.refuseIssue c).txlog = s.txlog := rfl
@[simp] theorem State.refuseIssue_events (c : BitVec 3) : (s.refuseIssue c).events = s.events := rfl
@[simp] theorem State.refuseIssue_refusedIssues (c : BitVec 3) : (s.refuseIssue c).refusedIssues = s.refusedIssues ++ [c] := rfl

/-! `storeByte`: R119, appending. -/

@[simp] theorem State.storeByte_op (b : Byte) : (s.storeByte b).op = s.op := rfl
@[simp] theorem State.storeByte_phase (b : Byte) : (s.storeByte b).phase = s.phase := rfl
@[simp] theorem State.storeByte_rkind (b : Byte) : (s.storeByte b).rkind = s.rkind := rfl
@[simp] theorem State.storeByte_fallback (b : Byte) : (s.storeByte b).fallback = s.fallback := rfl
@[simp] theorem State.storeByte_esc (b : Byte) : (s.storeByte b).esc = escAfter b := rfl
@[simp] theorem State.storeByte_count (b : Byte) : (s.storeByte b).count = s.count + 1 := rfl
@[simp] theorem State.storeByte_rxbuf (b : Byte) : (s.storeByte b).rxbuf = s.rxbuf.setIfInBounds s.count b := rfl
@[simp] theorem State.storeByte_meas (b : Byte) : (s.storeByte b).meas = s.meas := rfl
@[simp] theorem State.storeByte_str (b : Byte) : (s.storeByte b).str = s.str := rfl
@[simp] theorem State.storeByte_strlen (b : Byte) : (s.storeByte b).strlen = s.strlen := rfl
@[simp] theorem State.storeByte_vmaj (b : Byte) : (s.storeByte b).vmaj = s.vmaj := rfl
@[simp] theorem State.storeByte_vmin (b : Byte) : (s.storeByte b).vmin = s.vmin := rfl
@[simp] theorem State.storeByte_rxq (b : Byte) : (s.storeByte b).rxq = s.rxq := rfl
@[simp] theorem State.storeByte_txlog (b : Byte) : (s.storeByte b).txlog = s.txlog := rfl
@[simp] theorem State.storeByte_events (b : Byte) : (s.storeByte b).events = s.events := rfl
@[simp] theorem State.storeByte_refusedIssues (b : Byte) : (s.storeByte b).refusedIssues = s.refusedIssues := rfl

/-! `replaceLast`: R119, replacing. -/

@[simp] theorem State.replaceLast_op (o : Byte) : (s.replaceLast o).op = s.op := rfl
@[simp] theorem State.replaceLast_phase (o : Byte) : (s.replaceLast o).phase = s.phase := rfl
@[simp] theorem State.replaceLast_rkind (o : Byte) : (s.replaceLast o).rkind = s.rkind := rfl
@[simp] theorem State.replaceLast_fallback (o : Byte) : (s.replaceLast o).fallback = s.fallback := rfl
@[simp] theorem State.replaceLast_esc (o : Byte) : (s.replaceLast o).esc = false := rfl
@[simp] theorem State.replaceLast_count (o : Byte) : (s.replaceLast o).count = s.count := rfl
@[simp] theorem State.replaceLast_rxbuf (o : Byte) : (s.replaceLast o).rxbuf = s.rxbuf.setIfInBounds (s.count - 1) o := rfl
@[simp] theorem State.replaceLast_meas (o : Byte) : (s.replaceLast o).meas = s.meas := rfl
@[simp] theorem State.replaceLast_str (o : Byte) : (s.replaceLast o).str = s.str := rfl
@[simp] theorem State.replaceLast_strlen (o : Byte) : (s.replaceLast o).strlen = s.strlen := rfl
@[simp] theorem State.replaceLast_vmaj (o : Byte) : (s.replaceLast o).vmaj = s.vmaj := rfl
@[simp] theorem State.replaceLast_vmin (o : Byte) : (s.replaceLast o).vmin = s.vmin := rfl
@[simp] theorem State.replaceLast_rxq (o : Byte) : (s.replaceLast o).rxq = s.rxq := rfl
@[simp] theorem State.replaceLast_txlog (o : Byte) : (s.replaceLast o).txlog = s.txlog := rfl
@[simp] theorem State.replaceLast_events (o : Byte) : (s.replaceLast o).events = s.events := rfl
@[simp] theorem State.replaceLast_refusedIssues (o : Byte) : (s.replaceLast o).refusedIssues = s.refusedIssues := rfl

/-! `clearEsc`: ESC <- 0. -/

@[simp] theorem State.clearEsc_op : s.clearEsc.op = s.op := rfl
@[simp] theorem State.clearEsc_phase : s.clearEsc.phase = s.phase := rfl
@[simp] theorem State.clearEsc_rkind : s.clearEsc.rkind = s.rkind := rfl
@[simp] theorem State.clearEsc_fallback : s.clearEsc.fallback = s.fallback := rfl
@[simp] theorem State.clearEsc_esc : s.clearEsc.esc = false := rfl
@[simp] theorem State.clearEsc_count : s.clearEsc.count = s.count := rfl
@[simp] theorem State.clearEsc_rxbuf : s.clearEsc.rxbuf = s.rxbuf := rfl
@[simp] theorem State.clearEsc_meas : s.clearEsc.meas = s.meas := rfl
@[simp] theorem State.clearEsc_str : s.clearEsc.str = s.str := rfl
@[simp] theorem State.clearEsc_strlen : s.clearEsc.strlen = s.strlen := rfl
@[simp] theorem State.clearEsc_vmaj : s.clearEsc.vmaj = s.vmaj := rfl
@[simp] theorem State.clearEsc_vmin : s.clearEsc.vmin = s.vmin := rfl
@[simp] theorem State.clearEsc_rxq : s.clearEsc.rxq = s.rxq := rfl
@[simp] theorem State.clearEsc_txlog : s.clearEsc.txlog = s.txlog := rfl
@[simp] theorem State.clearEsc_events : s.clearEsc.events = s.events := rfl
@[simp] theorem State.clearEsc_refusedIssues : s.clearEsc.refusedIssues = s.refusedIssues := rfl

/-! `discardPartial`: R153. -/

@[simp] theorem State.discardPartial_op : s.discardPartial.op = s.op := rfl
@[simp] theorem State.discardPartial_phase : s.discardPartial.phase = s.phase := rfl
@[simp] theorem State.discardPartial_rkind : s.discardPartial.rkind = s.rkind := rfl
@[simp] theorem State.discardPartial_fallback : s.discardPartial.fallback = s.fallback := rfl
@[simp] theorem State.discardPartial_esc : s.discardPartial.esc = false := rfl
@[simp] theorem State.discardPartial_count : s.discardPartial.count = 0 := rfl
@[simp] theorem State.discardPartial_rxbuf : s.discardPartial.rxbuf = Vector.replicate 47 0 := rfl
@[simp] theorem State.discardPartial_meas : s.discardPartial.meas = s.meas := rfl
@[simp] theorem State.discardPartial_str : s.discardPartial.str = s.str := rfl
@[simp] theorem State.discardPartial_strlen : s.discardPartial.strlen = s.strlen := rfl
@[simp] theorem State.discardPartial_vmaj : s.discardPartial.vmaj = s.vmaj := rfl
@[simp] theorem State.discardPartial_vmin : s.discardPartial.vmin = s.vmin := rfl
@[simp] theorem State.discardPartial_rxq : s.discardPartial.rxq = s.rxq := rfl
@[simp] theorem State.discardPartial_txlog : s.discardPartial.txlog = s.txlog := rfl
@[simp] theorem State.discardPartial_events : s.discardPartial.events = s.events := rfl
@[simp] theorem State.discardPartial_refusedIssues : s.discardPartial.refusedIssues = s.refusedIssues := rfl

/-! `putMeasurement`: R127, MEASUREMENT. -/

@[simp] theorem State.putMeasurement_op (m : Vector Word 10) (fb : Bool) : (s.putMeasurement m fb).op = s.op := rfl
@[simp] theorem State.putMeasurement_phase (m : Vector Word 10) (fb : Bool) : (s.putMeasurement m fb).phase = s.phase := rfl
@[simp] theorem State.putMeasurement_rkind (m : Vector Word 10) (fb : Bool) : (s.putMeasurement m fb).rkind = .measurement := rfl
@[simp] theorem State.putMeasurement_fallback (m : Vector Word 10) (fb : Bool) : (s.putMeasurement m fb).fallback = fb := rfl
@[simp] theorem State.putMeasurement_esc (m : Vector Word 10) (fb : Bool) : (s.putMeasurement m fb).esc = s.esc := rfl
@[simp] theorem State.putMeasurement_count (m : Vector Word 10) (fb : Bool) : (s.putMeasurement m fb).count = s.count := rfl
@[simp] theorem State.putMeasurement_rxbuf (m : Vector Word 10) (fb : Bool) : (s.putMeasurement m fb).rxbuf = s.rxbuf := rfl
@[simp] theorem State.putMeasurement_meas (m : Vector Word 10) (fb : Bool) : (s.putMeasurement m fb).meas = m := rfl
@[simp] theorem State.putMeasurement_str (m : Vector Word 10) (fb : Bool) : (s.putMeasurement m fb).str = s.str := rfl
@[simp] theorem State.putMeasurement_strlen (m : Vector Word 10) (fb : Bool) : (s.putMeasurement m fb).strlen = s.strlen := rfl
@[simp] theorem State.putMeasurement_vmaj (m : Vector Word 10) (fb : Bool) : (s.putMeasurement m fb).vmaj = s.vmaj := rfl
@[simp] theorem State.putMeasurement_vmin (m : Vector Word 10) (fb : Bool) : (s.putMeasurement m fb).vmin = s.vmin := rfl
@[simp] theorem State.putMeasurement_rxq (m : Vector Word 10) (fb : Bool) : (s.putMeasurement m fb).rxq = s.rxq := rfl
@[simp] theorem State.putMeasurement_txlog (m : Vector Word 10) (fb : Bool) : (s.putMeasurement m fb).txlog = s.txlog := rfl
@[simp] theorem State.putMeasurement_events (m : Vector Word 10) (fb : Bool) : (s.putMeasurement m fb).events = s.events := rfl
@[simp] theorem State.putMeasurement_refusedIssues (m : Vector Word 10) (fb : Bool) : (s.putMeasurement m fb).refusedIssues = s.refusedIssues := rfl

/-! `putString`: R127, ASCII. -/

@[simp] theorem State.putString_op (p : List Byte) : (s.putString p).op = s.op := rfl
@[simp] theorem State.putString_phase (p : List Byte) : (s.putString p).phase = s.phase := rfl
@[simp] theorem State.putString_rkind (p : List Byte) : (s.putString p).rkind = .string := rfl
@[simp] theorem State.putString_fallback (p : List Byte) : (s.putString p).fallback = s.fallback := rfl
@[simp] theorem State.putString_esc (p : List Byte) : (s.putString p).esc = s.esc := rfl
@[simp] theorem State.putString_count (p : List Byte) : (s.putString p).count = s.count := rfl
@[simp] theorem State.putString_rxbuf (p : List Byte) : (s.putString p).rxbuf = s.rxbuf := rfl
@[simp] theorem State.putString_meas (p : List Byte) : (s.putString p).meas = s.meas := rfl
@[simp] theorem State.putString_str (p : List Byte) : (s.putString p).str = memWrite s.str 0 p := rfl
@[simp] theorem State.putString_strlen (p : List Byte) : (s.putString p).strlen = BitVec.ofNat 5 p.length := rfl
@[simp] theorem State.putString_vmaj (p : List Byte) : (s.putString p).vmaj = s.vmaj := rfl
@[simp] theorem State.putString_vmin (p : List Byte) : (s.putString p).vmin = s.vmin := rfl
@[simp] theorem State.putString_rxq (p : List Byte) : (s.putString p).rxq = s.rxq := rfl
@[simp] theorem State.putString_txlog (p : List Byte) : (s.putString p).txlog = s.txlog := rfl
@[simp] theorem State.putString_events (p : List Byte) : (s.putString p).events = s.events := rfl
@[simp] theorem State.putString_refusedIssues (p : List Byte) : (s.putString p).refusedIssues = s.refusedIssues := rfl

/-! `putVersion`: R127, FIRMWARE. -/

@[simp] theorem State.putVersion_op (a b : Int) : (s.putVersion a b).op = s.op := rfl
@[simp] theorem State.putVersion_phase (a b : Int) : (s.putVersion a b).phase = s.phase := rfl
@[simp] theorem State.putVersion_rkind (a b : Int) : (s.putVersion a b).rkind = .version := rfl
@[simp] theorem State.putVersion_fallback (a b : Int) : (s.putVersion a b).fallback = s.fallback := rfl
@[simp] theorem State.putVersion_esc (a b : Int) : (s.putVersion a b).esc = s.esc := rfl
@[simp] theorem State.putVersion_count (a b : Int) : (s.putVersion a b).count = s.count := rfl
@[simp] theorem State.putVersion_rxbuf (a b : Int) : (s.putVersion a b).rxbuf = s.rxbuf := rfl
@[simp] theorem State.putVersion_meas (a b : Int) : (s.putVersion a b).meas = s.meas := rfl
@[simp] theorem State.putVersion_str (a b : Int) : (s.putVersion a b).str = s.str := rfl
@[simp] theorem State.putVersion_strlen (a b : Int) : (s.putVersion a b).strlen = s.strlen := rfl
@[simp] theorem State.putVersion_vmaj (a b : Int) : (s.putVersion a b).vmaj = BitVec.ofInt 8 a := rfl
@[simp] theorem State.putVersion_vmin (a b : Int) : (s.putVersion a b).vmin = BitVec.ofInt 8 b := rfl
@[simp] theorem State.putVersion_rxq (a b : Int) : (s.putVersion a b).rxq = s.rxq := rfl
@[simp] theorem State.putVersion_txlog (a b : Int) : (s.putVersion a b).txlog = s.txlog := rfl
@[simp] theorem State.putVersion_events (a b : Int) : (s.putVersion a b).events = s.events := rfl
@[simp] theorem State.putVersion_refusedIssues (a b : Int) : (s.putVersion a b).refusedIssues = s.refusedIssues := rfl

/-! `raise`: R7 raise. -/

@[simp] theorem State.raise_op (k : ResultKind) (p : Phase) : (s.raise k p).op = s.op := rfl
@[simp] theorem State.raise_phase (k : ResultKind) (p : Phase) : (s.raise k p).phase = p := rfl
@[simp] theorem State.raise_rkind (k : ResultKind) (p : Phase) : (s.raise k p).rkind = k := rfl
@[simp] theorem State.raise_fallback (k : ResultKind) (p : Phase) : (s.raise k p).fallback = s.fallback := rfl
@[simp] theorem State.raise_esc (k : ResultKind) (p : Phase) : (s.raise k p).esc = s.esc := rfl
@[simp] theorem State.raise_count (k : ResultKind) (p : Phase) : (s.raise k p).count = s.count := rfl
@[simp] theorem State.raise_rxbuf (k : ResultKind) (p : Phase) : (s.raise k p).rxbuf = s.rxbuf := rfl
@[simp] theorem State.raise_meas (k : ResultKind) (p : Phase) : (s.raise k p).meas = s.meas := rfl
@[simp] theorem State.raise_str (k : ResultKind) (p : Phase) : (s.raise k p).str = s.str := rfl
@[simp] theorem State.raise_strlen (k : ResultKind) (p : Phase) : (s.raise k p).strlen = s.strlen := rfl
@[simp] theorem State.raise_vmaj (k : ResultKind) (p : Phase) : (s.raise k p).vmaj = s.vmaj := rfl
@[simp] theorem State.raise_vmin (k : ResultKind) (p : Phase) : (s.raise k p).vmin = s.vmin := rfl
@[simp] theorem State.raise_rxq (k : ResultKind) (p : Phase) : (s.raise k p).rxq = s.rxq := rfl
@[simp] theorem State.raise_txlog (k : ResultKind) (p : Phase) : (s.raise k p).txlog = s.txlog := rfl
@[simp] theorem State.raise_events (k : ResultKind) (p : Phase) : (s.raise k p).events = s.events := rfl
@[simp] theorem State.raise_refusedIssues (k : ResultKind) (p : Phase) : (s.raise k p).refusedIssues = s.refusedIssues := rfl

/-! `raiseTimeout`: R204. -/

@[simp] theorem State.raiseTimeout_op : s.raiseTimeout.op = s.op := rfl
@[simp] theorem State.raiseTimeout_phase : s.raiseTimeout.phase = .timedOut := rfl
@[simp] theorem State.raiseTimeout_rkind : s.raiseTimeout.rkind = .timeout := rfl
@[simp] theorem State.raiseTimeout_fallback : s.raiseTimeout.fallback = s.fallback := rfl
@[simp] theorem State.raiseTimeout_esc : s.raiseTimeout.esc = false := rfl
@[simp] theorem State.raiseTimeout_count : s.raiseTimeout.count = 0 := rfl
@[simp] theorem State.raiseTimeout_rxbuf : s.raiseTimeout.rxbuf = Vector.replicate 47 0 := rfl
@[simp] theorem State.raiseTimeout_meas : s.raiseTimeout.meas = s.meas := rfl
@[simp] theorem State.raiseTimeout_str : s.raiseTimeout.str = s.str := rfl
@[simp] theorem State.raiseTimeout_strlen : s.raiseTimeout.strlen = s.strlen := rfl
@[simp] theorem State.raiseTimeout_vmaj : s.raiseTimeout.vmaj = s.vmaj := rfl
@[simp] theorem State.raiseTimeout_vmin : s.raiseTimeout.vmin = s.vmin := rfl
@[simp] theorem State.raiseTimeout_rxq : s.raiseTimeout.rxq = s.rxq := rfl
@[simp] theorem State.raiseTimeout_txlog : s.raiseTimeout.txlog = s.txlog := rfl
@[simp] theorem State.raiseTimeout_events : s.raiseTimeout.events = s.events := rfl
@[simp] theorem State.raiseTimeout_refusedIssues : s.raiseTimeout.refusedIssues = s.refusedIssues := rfl

/-! `raiseDecodeError`: R205. -/

@[simp] theorem State.raiseDecodeError_op : s.raiseDecodeError.op = s.op := rfl
@[simp] theorem State.raiseDecodeError_phase : s.raiseDecodeError.phase = .responseComplete := rfl
@[simp] theorem State.raiseDecodeError_rkind : s.raiseDecodeError.rkind = .decodeError := rfl
@[simp] theorem State.raiseDecodeError_fallback : s.raiseDecodeError.fallback = s.fallback := rfl
@[simp] theorem State.raiseDecodeError_esc : s.raiseDecodeError.esc = s.esc := rfl
@[simp] theorem State.raiseDecodeError_count : s.raiseDecodeError.count = s.count := rfl
@[simp] theorem State.raiseDecodeError_rxbuf : s.raiseDecodeError.rxbuf = s.rxbuf := rfl
@[simp] theorem State.raiseDecodeError_meas : s.raiseDecodeError.meas = s.meas := rfl
@[simp] theorem State.raiseDecodeError_str : s.raiseDecodeError.str = s.str := rfl
@[simp] theorem State.raiseDecodeError_strlen : s.raiseDecodeError.strlen = s.strlen := rfl
@[simp] theorem State.raiseDecodeError_vmaj : s.raiseDecodeError.vmaj = s.vmaj := rfl
@[simp] theorem State.raiseDecodeError_vmin : s.raiseDecodeError.vmin = s.vmin := rfl
@[simp] theorem State.raiseDecodeError_rxq : s.raiseDecodeError.rxq = s.rxq := rfl
@[simp] theorem State.raiseDecodeError_txlog : s.raiseDecodeError.txlog = s.txlog := rfl
@[simp] theorem State.raiseDecodeError_events : s.raiseDecodeError.events = s.events := rfl
@[simp] theorem State.raiseDecodeError_refusedIssues : s.raiseDecodeError.refusedIssues = s.refusedIssues := rfl

/-! `resetFramer`: R31. -/

@[simp] theorem State.resetFramer_op : s.resetFramer.op = .start := rfl
@[simp] theorem State.resetFramer_phase : s.resetFramer.phase = .idle := rfl
@[simp] theorem State.resetFramer_rkind : s.resetFramer.rkind = .noResult := rfl
@[simp] theorem State.resetFramer_fallback : s.resetFramer.fallback = false := rfl
@[simp] theorem State.resetFramer_esc : s.resetFramer.esc = false := rfl
@[simp] theorem State.resetFramer_count : s.resetFramer.count = 0 := rfl
@[simp] theorem State.resetFramer_rxbuf : s.resetFramer.rxbuf = Vector.replicate 47 0 := rfl
@[simp] theorem State.resetFramer_meas : s.resetFramer.meas = Vector.replicate 10 0 := rfl
@[simp] theorem State.resetFramer_str : s.resetFramer.str = Vector.replicate 17 0 := rfl
@[simp] theorem State.resetFramer_strlen : s.resetFramer.strlen = 0 := rfl
@[simp] theorem State.resetFramer_vmaj : s.resetFramer.vmaj = 0 := rfl
@[simp] theorem State.resetFramer_vmin : s.resetFramer.vmin = 0 := rfl
@[simp] theorem State.resetFramer_rxq : s.resetFramer.rxq = s.rxq := rfl
@[simp] theorem State.resetFramer_txlog : s.resetFramer.txlog = s.txlog := rfl
@[simp] theorem State.resetFramer_events : s.resetFramer.events = s.events := rfl
@[simp] theorem State.resetFramer_refusedIssues : s.resetFramer.refusedIssues = s.refusedIssues := rfl

end Sys2Proof.Machine
end

