-- ==== Sys2Proof/Laws/Ops.lean ====
section
/-! SUPPORT. What each shared operation can do, said once: Issue, DestuffStep, DecodePayload, one RxByte, and the
taking of all that can be taken. -/

namespace Sys2Proof.Machine

/-! `andThen` -/

@[simp] theorem andThen_next (s : State) (k : State → StepResult) : andThen (.next s) k = k s := rfl

@[simp] theorem andThen_fault (f : Fault) (k : State → StepResult) : andThen (.fault f) k = .fault f := rfl

@[simp] theorem andThen_refused (q : Refusal) (k : State → StepResult) : andThen (.refused q) k = .refused q := rfl

theorem andThen_eq_next {r : StepResult} {k : State → StepResult} {t : State} :
    andThen r k = .next t ↔ ∃ u, r = .next u ∧ k u = .next t := by
  cases r <;> simp [andThen]

theorem andThen_assoc (r : StepResult) (j k : State → StepResult) :
    andThen (andThen r j) k = andThen r (fun s => andThen (j s) k) := by
  cases r <;> rfl

/-! `Issue` (R155, R156, R157) -/

theorem opOfCode_code (op : Op) : opOfCode op.code = some op := by cases op <;> rfl

theorem opOfCode_eq_none_iff (c : BitVec 3) : opOfCode c = none ↔ 6 ≤ c.toNat := by revert c; decide

/-- The phase an accepted operation leaves: START and STOP end at once (R155 step 4). -/
def phaseAfter (op : Op) : Phase := if op.response.isSome then .requestSent else .responseComplete

/-- Every descriptor builds a frame, which the accepted operation writes (R155). -/
theorem acceptIssue_eq (op : Op) (s : State) :
    ∃ f, buildFrame (descriptor op).cmd (descriptor op).subcommand (descriptor op).args = some f ∧
      acceptIssue op s = .next (s.issued op (phaseAfter op) f) := by
  cases op <;> exact ⟨_, rfl, rfl⟩

theorem issue_busy (c : BitVec 3) {s : State} (h : s.phase = .requestSent) :
    issue c s = .next (s.refuseIssue c) := by simp [issue, h]

theorem issue_reserved {c : BitVec 3} (h : 6 ≤ c.toNat) (s : State) : issue c s = .next (s.refuseIssue c) := by
  simp [issue, (opOfCode_eq_none_iff c).2 h]

theorem issue_accepted (op : Op) {s : State} (h : s.phase ≠ .requestSent) : issue op.code s = acceptIssue op s := by
  simp [issue, h, opOfCode_code]

/-- An Issue always answers a next state: refused, or accepted. -/
theorem issue_cases (c : BitVec 3) (s : State) :
    ((s.phase = .requestSent ∨ 6 ≤ c.toNat) ∧ issue c s = .next (s.refuseIssue c)) ∨
    (s.phase ≠ .requestSent ∧ ∃ op f, c = op.code ∧
      buildFrame (descriptor op).cmd (descriptor op).subcommand (descriptor op).args = some f ∧
      issue c s = .next (s.issued op (phaseAfter op) f)) := by
  by_cases hp : s.phase = .requestSent
  · exact .inl ⟨.inl hp, issue_busy c hp⟩
  · by_cases hc : 6 ≤ c.toNat
    · exact .inl ⟨.inr hc, issue_reserved hc s⟩
    · have : ∃ op : Op, c = op.code := by
        have : ∀ c : BitVec 3, ¬ 6 ≤ c.toNat →
            c = Op.code .start ∨ c = Op.code .stop ∨ c = Op.code .readValues ∨ c = Op.code .readProductType ∨
              c = Op.code .readSerialNumber ∨ c = Op.code .readFirmwareVersion := by decide
        rcases this c hc with h | h | h | h | h | h <;> exact ⟨_, h⟩
      obtain ⟨op, rfl⟩ := this
      obtain ⟨f, hf, hs⟩ := acceptIssue_eq op s
      exact .inr ⟨hp, op, f, rfl, hf, by rw [issue_accepted op hp, hs]⟩

/-! `DestuffStep` (R119) -/

theorem destuffStep_store {b : Byte} {s : State} (h : s.esc = false ∨ unesc b = none) :
    destuffStep b s = .next (s.storeByte b) := by
  unfold destuffStep
  rcases h with h | h <;> simp [h]

theorem destuffStep_replace {b o : Byte} {s : State} (he : s.esc = true) (hb : unesc b = some o)
    (hc : 1 ≤ s.count) : destuffStep b s = .next (s.replaceLast o) := by
  simp [destuffStep, he, hb, Nat.ne_of_gt hc]

/-! `DecodePayload` (R127) -/

/-- What DecodePayload leaves unchanged, whatever it decodes. -/
theorem decodePayload_frame {k : Kind} {p : List Byte} {s t : State} (h : decodePayload k p s = .next t) :
    t.op = s.op ∧ t.esc = s.esc ∧ t.count = s.count ∧ t.rxbuf = s.rxbuf ∧ t.rxq = s.rxq ∧ t.txlog = s.txlog ∧
      t.events = s.events ∧ t.refusedIssues = s.refusedIssues := by
  unfold decodePayload at h
  split at h
  · cases h; simp
  · split at h
    · split at h <;> cases h; simp
    · cases h; simp
  · split at h <;> cases h <;> simp

theorem length_memRead {a n : Nat} (buf : Vector Byte 47) (h : a + n ≤ 47) : (memRead buf a n).length = n := by
  simp [memRead]; omega

theorem length_extractPayload {f : List Byte} (h : 7 ≤ f.length) : (extractPayload f).length = f.length - 7 := by
  simp only [extractPayload, hdr, trl]
  rw [if_pos (by omega)]
  simp only [List.length_take, List.length_drop]
  omega

/-- The three responses the descriptors name (R80). -/
theorem response_cases {op : Op} {r : Response} (h : op.response = some r) :
    (op = .readValues ∧ r = ⟨47, .measurement⟩) ∨
    ((op = .readProductType ∨ op = .readSerialNumber) ∧ r = ⟨24, .ascii⟩) ∨
    (op = .readFirmwareVersion ∧ r = ⟨14, .firmware⟩) := by
  cases op <;> simp [Op.response, descriptor] at h <;> simp [← h]

theorem response_le {op : Op} {r : Response} (h : op.response = some r) : 7 ≤ r.n ∧ r.n ≤ 47 := by
  rcases response_cases h with ⟨-, rfl⟩ | ⟨-, rfl⟩ | ⟨-, rfl⟩ <;> simp

/-- The payload a response hands to its decoder has N-7 bytes (R122). -/
theorem length_payload {op : Op} {r : Response} (h : op.response = some r) (buf : Vector Byte 47) :
    (extractPayload (memRead buf 0 r.n)).length = r.n - 7 := by
  have := response_le h
  have hl := length_memRead (a := 0) (n := r.n) buf (by omega)
  rw [length_extractPayload (by omega), hl]

/-- The result registers, RKIND and FALLBACK that DecodePayload leaves on a payload of its response's length: a
measurement without fallback, a string of seventeen ASCII characters or DecodeError, or a version (R123 to R127). -/
theorem decodePayload_eq {op : Op} {r : Response} (h : op.response = some r) (p : List Byte) (hp : p.length = r.n - 7)
    (s : State) :
    (r = ⟨47, .measurement⟩ ∧ decodePayload r.kind p s = .next (s.putMeasurement (decodeMeasurement p).1 false)) ∨
    (r = ⟨24, .ascii⟩ ∧ (∀ b ∈ p, b ≤ 0x7F#8) ∧ decodePayload r.kind p s = .next (s.putString p)) ∨
    (r = ⟨24, .ascii⟩ ∧ (∃ b ∈ p, 0x7F#8 < b) ∧ decodePayload r.kind p s = .next s.raiseDecodeError) ∨
    (r = ⟨14, .firmware⟩ ∧
      decodePayload r.kind p s = .next (s.putVersion (sext8 (p.getD 0 0)) (sext8 (p.getD 1 0)))) := by
  rcases response_cases h with ⟨-, rfl⟩ | ⟨-, rfl⟩ | ⟨-, rfl⟩
  · left
    simp at hp
    simp [decodePayload, decodeMeasurement, fallbackFlag, hp]
  · right
    by_cases ha : ∀ b ∈ p, b ≤ 0x7F#8
    · left
      have : decodeAscii p = some p := by simpa [decodeAscii] using ha
      simp only [decodePayload, this]
      simp at hp
      exact ⟨trivial, ha, by simp [hp]⟩
    · right; left
      have : decodeAscii p = none := by simpa [decodeAscii] using ha
      simp only [decodePayload, this]
      exact ⟨trivial, by simpa using ha, trivial⟩
  · right; right; right
    simp at hp
    simp [decodePayload, decodeFirmware, hp]

/-! One RxByte (R152) -/

/-- A byte that replaces the pending 0x7D never completes (R152). -/
theorem takeByte_replace {b o : Byte} {rest : List Byte} {s : State} {r : Response} (hr : s.op.response = some r)
    (hc : s.count < r.n) (he : s.esc = true) (hb : unesc b = some o) (h1 : 1 ≤ s.count) :
    takeByte b rest s = .next ((s.setRxq rest).replaceLast o) := by
  have hd : destuffStep b (s.setRxq rest) = .next ((s.setRxq rest).replaceLast o) :=
    destuffStep_replace (by simpa using he) hb (by simpa using h1)
  simp [takeByte, hr, hc, hd, completeIfFull, Nat.ne_of_lt hc]

/-- Before completion a stored byte is only stored (R152). -/
theorem takeByte_store {b : Byte} {rest : List Byte} {s : State} {r : Response} (hr : s.op.response = some r)
    (hc : s.count + 1 < r.n) (he : s.esc = false ∨ unesc b = none) :
    takeByte b rest s = .next ((s.setRxq rest).storeByte b) := by
  have hd : destuffStep b (s.setRxq rest) = .next ((s.setRxq rest).storeByte b) :=
    destuffStep_store (by simpa using he)
  have hlt : s.count < r.n := by omega
  simp [takeByte, hr, hlt, hd, completeIfFull, Nat.ne_of_lt hc]

/-- The byte that completes the response is stored, and the payload is decoded (R152). -/
theorem takeByte_complete {b : Byte} {rest : List Byte} {s : State} {r : Response} (hr : s.op.response = some r)
    (hc : s.count + 1 = r.n) (he : s.esc = false ∨ unesc b = none) :
    takeByte b rest s =
      andThen (decodePayload r.kind (extractPayload (memRead (s.rxbuf.setIfInBounds s.count b) 0 r.n))
        ((s.setRxq rest).storeByte b).clearEsc) (fun t => .next (t.setPhase .responseComplete)) := by
  have hd : destuffStep b (s.setRxq rest) = .next ((s.setRxq rest).storeByte b) :=
    destuffStep_store (by simpa using he)
  have hlt : s.count < r.n := by omega
  simp [takeByte, hr, hlt, hd, completeIfFull, hc]

/-- Everything one RxByte can do. -/
theorem takeByte_cases {b : Byte} {rest : List Byte} {s t : State} (h : takeByte b rest s = .next t) :
    ∃ r, s.op.response = some r ∧ s.count < r.n ∧
      ((∃ o, s.esc = true ∧ unesc b = some o ∧ 1 ≤ s.count ∧ t = (s.setRxq rest).replaceLast o) ∨
       ((s.esc = false ∨ unesc b = none) ∧ s.count + 1 < r.n ∧ t = (s.setRxq rest).storeByte b) ∨
       ((s.esc = false ∨ unesc b = none) ∧ s.count + 1 = r.n ∧
         ∃ u, decodePayload r.kind (extractPayload (memRead (s.rxbuf.setIfInBounds s.count b) 0 r.n))
             ((s.setRxq rest).storeByte b).clearEsc = .next u ∧ t = u.setPhase .responseComplete)) := by
  cases hr : s.op.response with
  | none => simp [takeByte, hr] at h
  | some r =>
    by_cases hc : s.count < r.n
    · refine ⟨r, rfl, hc, ?_⟩
      by_cases he : s.esc = false ∨ unesc b = none
      · rcases Nat.lt_or_eq_of_le (Nat.succ_le_of_lt hc) with hlt | heq
        · rw [takeByte_store hr hlt he] at h
          cases h
          exact .inr (.inl ⟨he, hlt, rfl⟩)
        · rw [takeByte_complete hr heq he, andThen_eq_next] at h
          obtain ⟨u, hu, ht⟩ := h
          cases ht
          exact .inr (.inr ⟨he, heq, u, hu, rfl⟩)
      · obtain ⟨he, hb⟩ := not_or.1 he
        obtain ⟨o, ho⟩ := Option.ne_none_iff_exists'.1 hb
        have he : s.esc = true := by simpa using he
        by_cases h1 : 1 ≤ s.count
        · rw [takeByte_replace hr hc he ho h1] at h
          cases h
          exact .inl ⟨o, he, ho, h1, rfl⟩
        · have h0 : s.count = 0 := by omega
          rw [h0] at hc
          simp [takeByte, hr, destuffStep, he, ho, h0, hc] at h
    · simp [takeByte, hr, hc] at h

/-- What one RxByte leaves unchanged, and how it moves the phase. -/
theorem takeByte_frame {b : Byte} {rest : List Byte} {s t : State} (h : takeByte b rest s = .next t) :
    t.op = s.op ∧ t.rxq = rest ∧ t.txlog = s.txlog ∧ t.events = s.events ∧ t.refusedIssues = s.refusedIssues ∧
      ((t.phase = s.phase ∧ t.rkind = s.rkind ∧ t.fallback = s.fallback ∧ t.meas = s.meas ∧ t.str = s.str ∧
          t.strlen = s.strlen ∧ t.vmaj = s.vmaj ∧ t.vmin = s.vmin) ∨ t.phase = .responseComplete) := by
  obtain ⟨r, -, -, ⟨o, -, -, -, rfl⟩ | ⟨-, -, rfl⟩ | ⟨-, -, u, hu, rfl⟩⟩ := takeByte_cases h
  · simp
  · simp
  · obtain ⟨h1, -, -, -, h2, h3, h4, h5⟩ := decodePayload_frame hu
    simp [h1, h2, h3, h4, h5]

/-- In a state that meets the invariants a waiting framer can always take a byte. -/
theorem takeByte_next_of_inv {s : State} (hi : s.Inv) (hp : s.phase = .requestSent) (b : Byte) (rest : List Byte) :
    ∃ t, takeByte b rest s = .next t := by
  obtain ⟨-, r, hr, hc⟩ := hi.waiting hp
  by_cases he : s.esc = false ∨ unesc b = none
  · rcases Nat.lt_or_eq_of_le (Nat.succ_le_of_lt hc) with hlt | heq
    · exact ⟨_, takeByte_store hr hlt he⟩
    · rw [takeByte_complete hr heq he]
      have hl := length_payload hr (s.rxbuf.setIfInBounds s.count b)
      rcases decodePayload_eq hr _ hl ((s.setRxq rest).storeByte b).clearEsc with h | h | h | h
      · exact ⟨_, by rw [h.2]; rfl⟩
      · exact ⟨_, by rw [h.2.2]; rfl⟩
      · exact ⟨_, by rw [h.2.2]; rfl⟩
      · exact ⟨_, by rw [h.2]; rfl⟩
  · obtain ⟨he, hb⟩ := not_or.1 he
    obtain ⟨o, ho⟩ := Option.ne_none_iff_exists'.1 hb
    have he : s.esc = true := by simpa using he
    exact ⟨_, takeByte_replace hr hc he ho (hi.pending he).2.1⟩

/-! All that can be taken (R154) -/

/-- What is queued behind the byte taken has no part in the step. -/
theorem takeByte_rest (b : Byte) (q q' : List Byte) (s : State) :
    takeByte b q s = andThen (takeByte b q' s) (fun t => .next (t.setRxq q)) := by
  have decode_rest : ∀ (k : Kind) (p : List Byte) (u : State), decodePayload k p (u.setRxq q) =
      andThen (decodePayload k p (u.setRxq q')) (fun t => .next (t.setRxq q)) := by
    intro k p u
    unfold decodePayload
    split
    · rfl
    · split
      · split <;> rfl
      · rfl
    · split <;> rfl
  have complete_rest : ∀ (r : Response) (u : State), completeIfFull r (u.setRxq q) =
      andThen (completeIfFull r (u.setRxq q')) (fun t => .next (t.setRxq q)) := by
    intro r u
    unfold completeIfFull
    by_cases hc : u.count = r.n
    · simp only [State.setRxq_count, State.setRxq_rxbuf, hc, if_true]
      show andThen (decodePayload _ _ (u.clearEsc.setRxq q)) _ = _
      rw [decode_rest, andThen_assoc, andThen_assoc]
      rfl
    · simp [hc, State.setRxq]
  have destuff_rest : ∀ p : List Byte, destuffStep b (s.setRxq p) =
      andThen (destuffStep b s) (fun t => .next (t.setRxq p)) := by
    intro p
    cases he : s.esc <;> cases hb : unesc b <;> by_cases h0 : s.count = 0 <;>
      simp [destuffStep, he, hb, h0] <;> rfl
  unfold takeByte
  split
  · rfl
  · split
    · rw [destuff_rest q, destuff_rest q']
      cases destuffStep b s with
      | next u => exact complete_rest _ u
      | fault f => rfl
      | refused f => rfl
    · rfl

/-- `receive` works on the queue it is given. -/
theorem receive_setRxq (q q' : List Byte) (s : State) : receive q (s.setRxq q') = receive q s := by
  cases q <;> rfl

/-- The bytes of a longer queue are taken in order, those of its first part first (R55, R154). -/
theorem receive_append (a b : List Byte) (s : State) :
    receive (a ++ b) s = andThen (receive a s) (fun t => receive (t.rxq ++ b) (t.setRxq (t.rxq ++ b))) := by
  induction a generalizing s with
  | nil => simp [receive, receive_setRxq]
  | cons c a ih =>
    simp only [List.cons_append, receive]
    split
    · rw [takeByte_rest c (a ++ b) a, andThen_assoc, andThen_assoc]
      congr 1
      funext t
      rw [andThen_next, receive_setRxq, ih t]
    · rename_i hp
      simp [receive, hp, State.setRxq]

end Sys2Proof.Machine
end

