-- ==== Sys2Proof/Laws/Step.lean ====
section
/-! SUPPORT. What a step and a dispatched instruction can be, and that the receive path never looks at the schedule. -/

namespace Sys2Proof.Machine

/-- A step is the first event, in the state whose later events are the rest. -/
theorem step_cons {s : State} {e : Event} {more : List Event} (h : s.events = e :: more) :
    step s = happen e (s.setEvents more) := by
  simp [step, nextEvent, h]

/-- A row with a host code is that Issue (R155). -/
theorem exec_of_hostCode {i : Instr} {c : BitVec 3} (h : hostCode i = some c) (s : State) : exec i s = issue c s := by
  cases i <;> cases h <;> rfl

/-- A response or escape row is the delivery of its raw bytes. -/
theorem exec_of_deliveredBytes {i : Instr} {bs : List Byte} (h : deliveredBytes i = some bs) (s : State) :
    exec i s = deliver bs s := by
  cases i <;> cases h <;> rfl

/-- Every row is one or the other. -/
theorem hostCode_or_deliveredBytes (i : Instr) : (∃ c, hostCode i = some c) ∨ ∃ bs, deliveredBytes i = some bs := by
  cases i <;> first | exact .inl ⟨_, rfl⟩ | exact .inr ⟨_, rfl⟩

/-- The table's row of a host code has that host code (R81). -/
theorem hostCode_instrOfCode : ∀ c : BitVec 3, hostCode (instrOfCode c) = some c := by decide

/-- What a write of `p` at `a` leaves in a byte file: the bytes of `p` in their places, the others as before. -/
theorem memWrite_toList {n : Nat} (p : List Byte) (file : Vector Byte n) (a : Nat) (h : a + p.length ≤ n) :
    (memWrite file a p).toList = file.toList.take a ++ p ++ file.toList.drop (a + p.length) := by
  induction p generalizing a file with
  | nil => simp [memWrite]
  | cons b p ih =>
    simp only [List.length_cons] at h
    simp only [memWrite]
    rw [ih _ _ (by omega), Vector.toList_setIfInBounds, List.take_add_one, List.take_set_of_le (le_refl a),
      List.drop_set_of_lt (by omega)]
    have : a < file.toList.length := by simp; omega
    rw [List.getElem?_set_self this]
    simp [Nat.add_assoc, Nat.add_comm 1]

/-- Taking a byte does not look at the events still to come. -/
theorem takeByte_setEvents (b : Byte) (q : List Byte) (e : List Event) (s : State) :
    takeByte b q (s.setEvents e) = andThen (takeByte b q s) (fun t => .next (t.setEvents e)) := by
  have decode_events : ∀ (k : Kind) (p : List Byte) (u : State), decodePayload k p (u.setEvents e) =
      andThen (decodePayload k p u) (fun t => .next (t.setEvents e)) := by
    intro k p u
    unfold decodePayload
    split
    · rfl
    · split
      · split <;> rfl
      · rfl
    · split <;> rfl
  have complete_events : ∀ (r : Response) (u : State), completeIfFull r (u.setEvents e) =
      andThen (completeIfFull r u) (fun t => .next (t.setEvents e)) := by
    intro r u
    unfold completeIfFull
    by_cases hc : u.count = r.n
    · simp only [State.setEvents_count, State.setEvents_rxbuf, hc, if_true]
      show andThen (decodePayload _ _ (u.clearEsc.setEvents e)) _ = _
      rw [decode_events, andThen_assoc, andThen_assoc]
      rfl
    · simp [hc, State.setEvents]
  have destuff_events : destuffStep b ((s.setEvents e).setRxq q) =
      andThen (destuffStep b (s.setRxq q)) (fun t => .next (t.setEvents e)) := by
    cases he : s.esc <;> cases hb : unesc b <;> by_cases h0 : s.count = 0 <;>
      simp [destuffStep, he, hb, h0] <;> rfl
  unfold takeByte
  simp only [State.setEvents_op, State.setEvents_count]
  split
  · rfl
  · rename_i r hr
    by_cases hc : s.count < r.n
    · simp only [hc, if_true]
      rw [destuff_events]
      cases destuffStep b (s.setRxq q) with
      | next u => exact complete_events _ u
      | fault f => rfl
      | refused f => rfl
    · simp [hc]

/-- Nor does the taking of all that can be taken. -/
theorem receive_setEvents (q : List Byte) (e : List Event) (s : State) :
    receive q (s.setEvents e) = andThen (receive q s) (fun t => .next (t.setEvents e)) := by
  induction q generalizing s with
  | nil => rfl
  | cons b q ih =>
    by_cases hp : s.phase = .requestSent
    · simp only [receive, State.setEvents_phase, hp, if_true]
      rw [takeByte_setEvents, andThen_assoc, andThen_assoc]
      congr 1
      funext t
      simp [ih]
    · simp [receive, hp, State.setEvents, State.setRxq]

/-- A run of one step more. -/
theorem run_succ (k : Nat) (s : State) : Host.Core.run core (k + 1) s = andThen (step s) (Host.Core.run core k) := by
  rcases h : step s with t | t | t <;> (have h' : core.step s = _ := h; simp only [Host.Core.run, h']; rfl)

end Sys2Proof.Machine
end

