-- ==== Sys2Proof/Laws/PerInstr.lean ====
section
/-! SUPPORT. One family of statements made per instruction: the encoding of a well-formed instruction has the width
the row's format gives it in spec/opcode_table.json. -/

namespace Sys2Proof.Laws.EncodedWidth

open Sys2Proof

/-- The width of a row in whole bytes: the table's bits for the six frames, the three responses and the escape rows,
and one byte for a 3-bit host code. -/
def rowBytes : Instr → Nat
  | .start => 64 / 8
  | .stop | .readValues | .readFirmwareVersion => 48 / 8
  | .readProductType | .readSerialNumber => 56 / 8
  | .reservedOp6 | .reservedOp7 => 1
  | .respMeasurement _ => 376 / 8
  | .respDeviceInfo _ => 192 / 8
  | .respFirmware _ => 112 / 8
  | .esc7E | .esc7D | .esc11 | .esc13 => 16 / 8

/-- A well-formed instruction is encoded in its row's width. -/
def Statement (i : Instr) : Prop := WellFormed i = true → (encode i).length = rowBytes i

theorem start : Statement .start := fun _ => rfl
theorem stop : Statement .stop := fun _ => rfl
theorem readValues : Statement .readValues := fun _ => rfl
theorem readProductType : Statement .readProductType := fun _ => rfl
theorem readSerialNumber : Statement .readSerialNumber := fun _ => rfl
theorem readFirmwareVersion : Statement .readFirmwareVersion := fun _ => rfl
theorem reservedOp6 : Statement .reservedOp6 := fun _ => rfl
theorem reservedOp7 : Statement .reservedOp7 := fun _ => rfl
theorem respMeasurement (f : List Byte) : Statement (.respMeasurement f) := fun h => by
  simpa [WellFormed, encode, rowBytes] using h
theorem respDeviceInfo (f : List Byte) : Statement (.respDeviceInfo f) := fun h => by
  simpa [WellFormed, encode, rowBytes] using h
theorem respFirmware (f : List Byte) : Statement (.respFirmware f) := fun h => by
  simpa [WellFormed, encode, rowBytes] using h
theorem esc7E : Statement .esc7E := fun _ => rfl
theorem esc7D : Statement .esc7D := fun _ => rfl
theorem esc11 : Statement .esc11 := fun _ => rfl
theorem esc13 : Statement .esc13 := fun _ => rfl

end Sys2Proof.Laws.EncodedWidth
end

