-- ==== Sys2Proof/Tests/Slice0.lean ====
section
/-! SUPPORT. Tests, their expected results from spec/95_test_vectors.md (the section or vector is named) or written
out from the encodings of spec/30_encoding.md, and a witness for every obligation that has hypotheses. -/

namespace Sys2Proof.Tests

open Sys2Proof Sys2Proof.Machine

/-! ### Helpers -/

/-- The answer is a next state of which `p` holds. -/
def nextHas (r : StepResult) (p : State → Bool) : Bool :=
  match r with
  | .next s => p s
  | .fault _ | .refused _ => false

/-- The answer is this refusal. -/
def refusedAs (r : StepResult) (q : Refusal) : Bool :=
  match r with
  | .refused q' => q' == q
  | .next _ | .fault _ => false

/-- The decoder's answer is this instruction. -/
def decodesTo (w : List Byte) (i : Instr) : Bool :=
  match decode w with
  | .ok j => j == i
  | .error _ => false

/-- The decoder refuses for this reason. -/
def rejectsAs (w : List Byte) (e : DecodeReject) : Bool :=
  match decode w with
  | .ok _ => false
  | .error e' => e' == e

/-- A framer that waits for the response of `op`, nothing received yet. -/
def waiting (op : Op) : State := { State.reset with op := op, phase := .requestSent }

/-- The same with `p` received before (logical bytes), the flag ESC as given. -/
def holding (op : Op) (p : List Byte) (e : Bool) : State :=
  { waiting op with rxbuf := memWrite (Vector.replicate 47 0) 0 p, count := p.length, esc := e }

/-- The logical bytes of F-M1 (section 2.10). -/
def fM1 : List Byte :=
  [0x7E, 0x00, 0x03, 0x00, 0x28, 0x3F, 0x80, 0x00, 0x00, 0x40, 0x20, 0x00, 0x00, 0x40, 0x80, 0x00, 0x00] ++
  [0x41, 0x20, 0x00, 0x00, 0x3F, 0x7E, 0x00, 0x00, 0x41, 0x7D, 0x00, 0x00, 0x41, 0x11, 0x00, 0x00] ++
  [0x41, 0x13, 0x00, 0x00, 0x7F, 0xC0, 0x00, 0x00, 0x3D, 0xCC, 0xCC, 0xCD, 0x92, 0x7E]

/-- The raw bytes of F-M1 (section 2.10). -/
def fM1raw : List Byte :=
  [0x7E, 0x00, 0x03, 0x00, 0x28, 0x3F, 0x80, 0x00, 0x00, 0x40, 0x20, 0x00, 0x00, 0x40, 0x80, 0x00, 0x00] ++
  [0x41, 0x20, 0x00, 0x00, 0x3F, 0x7D, 0x5E, 0x00, 0x00, 0x41, 0x7D, 0x5D, 0x00, 0x00, 0x41, 0x7D, 0x31, 0x00] ++
  [0x00, 0x41, 0x7D, 0x33, 0x00, 0x00, 0x7F, 0xC0, 0x00, 0x00, 0x3D, 0xCC, 0xCC, 0xCD, 0x92, 0x7E]

/-- The ten words of F-M1 (section 2.7, row 6). -/
def fM1words : List Word :=
  [0x3F800000, 0x40200000, 0x40800000, 0x41200000, 0x3F7E0000, 0x417D0000, 0x41110000, 0x41130000, 0x7FC00000,
    0x3DCCCCCD]

/-- F-P1, logical (section 2.10). -/
def fP1 : List Byte :=
  [0x7E, 0x00, 0xD0, 0x00, 0x11, 0x30, 0x30, 0x30, 0x38, 0x30, 0x30, 0x30, 0x30] ++
  [0x00, 0x00, 0x00, 0x00, 0x00, 0x00, 0x00, 0x00, 0x00, 0x96, 0x7E]

/-- F-P1, raw (section 2.10). -/
def fP1raw : List Byte :=
  [0x7E, 0x00, 0xD0, 0x00, 0x7D, 0x31, 0x30, 0x30, 0x30, 0x38, 0x30, 0x30, 0x30, 0x30] ++
  [0x00, 0x00, 0x00, 0x00, 0x00, 0x00, 0x00, 0x00, 0x00, 0x96, 0x7E]

/-- F-N2, logical (section 2.10): two bytes above 0x7F. -/
def fN2 : List Byte :=
  [0x7E, 0x00, 0xD0, 0x00, 0x11, 0x41, 0x42, 0x43, 0xC3, 0xA9, 0x30, 0x31, 0x32] ++
  [0x33, 0x34, 0x35, 0x36, 0x37, 0x38, 0x39, 0x00, 0x00, 0xDF, 0x7E]

/-- F-V1, logical and raw (section 2.10). -/
def fV1 : List Byte := [0x7E, 0x00, 0xD1, 0x00, 0x07, 0x01, 0x02, 0x00, 0x07, 0x00, 0x02, 0x00, 0x1B, 0x7E]

/-- F-V2, logical (section 2.10). -/
def fV2 : List Byte := [0x7E, 0x00, 0xD1, 0x00, 0x07, 0x01, 0x02, 0x00, 0x11, 0x00, 0x02, 0x00, 0x11, 0x7E]

/-- F-V2, raw (section 2.10). -/
def fV2raw : List Byte :=
  [0x7E, 0x00, 0xD1, 0x00, 0x07, 0x01, 0x02, 0x00, 0x7D, 0x31, 0x00, 0x02, 0x00, 0x7D, 0x31, 0x7E]

/-- F-V3, logical and raw (section 2.10). -/
def fV3 : List Byte := [0x7E, 0x00, 0xD1, 0x00, 0x07, 0xFF, 0x80, 0x00, 0x00, 0x00, 0x00, 0x00, 0xA8, 0x7E]

/-! ### WellFormed (R76, R77, R78) -/

theorem test_wellFormed_refuses_short_measurement :
    WellFormed (.respMeasurement (List.replicate 46 0)) = false := by decide
theorem test_wellFormed_refuses_long_deviceInfo :
    WellFormed (.respDeviceInfo (List.replicate 25 0)) = false := by decide
theorem test_wellFormed_refuses_empty_firmware : WellFormed (.respFirmware []) = false := by decide
theorem test_wellFormed_accepts :
    WellFormed (.respMeasurement fM1) && WellFormed (.respDeviceInfo fP1) && WellFormed (.respFirmware fV1) &&
      WellFormed .start && WellFormed .reservedOp7 && WellFormed .esc13 = true := by decide

/-! ### Decoding: the words of every row, from R83, R81, R72 and section 2.10 -/

theorem test_decode_start : decodesTo [0x7E, 0x00, 0x00, 0x02, 0x01, 0x03, 0xF9, 0x7E] .start = true := by decide
theorem test_decode_stop : decodesTo [0x7E, 0x00, 0x01, 0x00, 0xFE, 0x7E] .stop = true := by decide
theorem test_decode_readValues : decodesTo [0x7E, 0x00, 0x03, 0x00, 0xFC, 0x7E] .readValues = true := by decide
theorem test_decode_readProductType :
    decodesTo [0x7E, 0x00, 0xD0, 0x01, 0x01, 0x2D, 0x7E] .readProductType = true := by decide
theorem test_decode_readSerialNumber :
    decodesTo [0x7E, 0x00, 0xD0, 0x01, 0x03, 0x2B, 0x7E] .readSerialNumber = true := by decide
theorem test_decode_readFirmwareVersion :
    decodesTo [0x7E, 0x00, 0xD1, 0x00, 0x2E, 0x7E] .readFirmwareVersion = true := by decide
theorem test_decode_reservedOp6 : decodesTo [0b110] .reservedOp6 = true := by decide
theorem test_decode_reservedOp7 : decodesTo [0b111] .reservedOp7 = true := by decide
theorem test_decode_respMeasurement : decodesTo fM1 (.respMeasurement fM1) = true := by decide
theorem test_decode_respDeviceInfo : decodesTo fP1 (.respDeviceInfo fP1) = true := by decide
theorem test_decode_respFirmware : decodesTo fV1 (.respFirmware fV1) = true := by decide
theorem test_decode_escapes :
    (decodesTo [0x7D, 0x5E] .esc7E && decodesTo [0x7D, 0x5D] .esc7D && decodesTo [0x7D, 0x31] .esc11 &&
      decodesTo [0x7D, 0x33] .esc13) = true := by decide

/-- One image for each reason the decoder has to refuse; the last two differ from STOP's frame in CHK alone and from
any descriptor in CMD. -/
theorem test_decode_rejects :
    (rejectsAs [0x08] .hostCodeTooWide && rejectsAs [0x7D, 0x00] .notAnEscape &&
      rejectsAs [] .noStartMarker && rejectsAs [0x00, 0x00, 0x01, 0x00, 0xFE, 0x7E] .noStartMarker &&
      rejectsAs [0x7E, 0x00, 0x01, 0x00, 0xFE, 0x00] .noStopMarker && rejectsAs [0x7E, 0x00, 0x7E] .frameTooShort &&
      rejectsAs [0x7E, 0x01, 0x01, 0x00, 0xFD, 0x7E] .badAddress &&
      rejectsAs [0x7E, 0x00, 0x01, 0x01, 0xFD, 0x7E] .lengthMismatch &&
      rejectsAs [0x7E, 0x00, 0x01, 0x00, 0xFF, 0x7E] .badChecksum &&
      rejectsAs [0x7E, 0x00, 0x02, 0x00, 0xFD, 0x7E] .unknownCommand) = true := by decide

/-- The table's own numbers, and that step runs the row first after reset. -/
theorem test_fetch_runs_the_row :
    (nextHas (step (State.reset.withFetchWord 64 0x7E0000020103F97E)) (fun t => t.txlog.length == 8) &&
      nextHas (step (State.reset.withFetchWord 16 0x7D31)) (fun t => t.rxq == [0x7D, 0x31]) &&
      nextHas (step (State.reset.withFetchWord 3 7)) (fun t => t.refusedIssues == [7])) = true := by decide

/-! ### The codec (sections 2.1 to 2.9) -/

theorem test_checksum :
    checksum [0xFF, 0xFF, 0x02] = 0xFF ∧ checksum [0x00, 0x11, 0x03, 0x7E, 0x7D, 0x13] = 0xDD ∧
      checksum [0x00, 0x03, 0x00, 0x28] = 0xD4 := by decide
theorem test_forwardStuff :
    forwardStuff [0x7D, 0x5E] = [0x7D, 0x5D, 0x5E] ∧ forwardStuff [0x12, 0x10, 0x7C, 0x7F] = [0x12, 0x10, 0x7C, 0x7F] ∧
      forwardStuff [0x7E, 0x7E] = [0x7D, 0x5E, 0x7D, 0x5E] := by decide
theorem test_buildFrame :
    buildFrame 0x11 none [0x7E, 0x7D, 0x13] =
      some [0x7E, 0x00, 0x7D, 0x31, 0x03, 0x7D, 0x5E, 0x7D, 0x5D, 0x7D, 0x33, 0xDD, 0x7E] ∧
    buildFrame 0xEC none [] = some [0x7E, 0x00, 0xEC, 0x00, 0x7D, 0x33, 0x7E] ∧
    buildFrame 0x00 none [0x01, 0x03] = buildFrame 0x00 (some 0x01) [0x03] := by decide
/-- The single pass: 7D 5D 31 gives 7D 31, not the 11 of the four-pass reading (section 2.4). -/
theorem test_reverseStuffing :
    reverseStuffing [0x7D, 0x5D, 0x31] = [0x7D, 0x31] ∧ reverseStuffing [0x7D, 0x7D, 0x5E] = [0x7D, 0x7E] ∧
      reverseStuffing [0x00, 0x7D, 0x5D, 0x31, 0x7D, 0x5E] = [0x00, 0x7D, 0x31, 0x7E] ∧
      reverseStuffing [0x00, 0x7D] = [0x00, 0x7D] := by decide
theorem test_extractPayload :
    extractPayload fV1 = [0x01, 0x02, 0x00, 0x07, 0x00, 0x02, 0x00] ∧ extractPayload [1, 2, 3, 4, 5, 6, 7, 8] = [6] ∧
      extractPayload [1, 2, 3, 4, 5, 6] = [] := by decide
theorem test_decodeMeasurement :
    (decodeMeasurement ([0x01, 0x02, 0x03, 0x04] ++ List.replicate 36 0x00)).1[0] = 0x01020304 ∧
      decodeMeasurement (List.replicate 39 0x01) = (Vector.replicate 10 0, true) := by decide
theorem test_decodeAscii :
    decodeAscii [0x7F, 0x00, 0x1B, 0x20] = some [0x7F, 0x00, 0x1B, 0x20] ∧ decodeAscii [0x41, 0x80] = none := by decide
theorem test_decodeFirmware :
    decodeFirmware [0xFF, 0x80, 0x00, 0x00, 0x00, 0x00, 0x00] = some (-1, -128) ∧
      decodeFirmware [0x7F, 0x0A, 0x00, 0x00, 0x00, 0x00, 0x00] = some (127, 10) ∧
      decodeFirmware [0x01, 0x02, 0x00, 0x00, 0x00, 0x00] = none := by decide
/-- "127.10" and "-1.-128" (section 2.9). -/
theorem test_formatVersion :
    formatVersion 127 10 = [0x31, 0x32, 0x37, 0x2E, 0x31, 0x30] ∧
      formatVersion (-1) (-128) = [0x2D, 0x31, 0x2E, 0x2D, 0x31, 0x32, 0x38] := by decide

/-! ### One step of each instruction -/

/-- O1, in a state whose queue and result registers are not clear. -/
theorem test_start :
    nextHas (exec .start { State.reset with phase := .timedOut, rkind := .timeout, rxq := [0xAA], vmaj := 5 })
      (fun t => t.txlog == [0x7E, 0x00, 0x00, 0x02, 0x01, 0x03, 0xF9, 0x7E] && t.phase == .responseComplete &&
        t.rkind == .noResult && t.rxq == [] && t.vmaj == 0) = true := by decide
/-- O2. -/
theorem test_stop :
    nextHas (exec .stop State.reset) (fun t => t.txlog == [0x7E, 0x00, 0x01, 0x00, 0xFE, 0x7E] &&
      t.phase == .responseComplete && t.rkind == .noResult && t.op == .stop) = true := by decide
/-- P1, the second operation. -/
theorem test_readValues :
    nextHas (exec .readValues { State.reset with rxq := [0x7E], txlog := [0x01] }) (fun t =>
      t.txlog == [0x01, 0x7E, 0x00, 0x03, 0x00, 0xFC, 0x7E] && t.phase == .requestSent && t.op == .readValues &&
        t.rxq == []) = true := by decide
/-- P3. -/
theorem test_readProductType :
    nextHas (exec .readProductType State.reset) (fun t =>
      t.txlog == [0x7E, 0x00, 0xD0, 0x01, 0x01, 0x2D, 0x7E] && hostRead .op t == 3) = true := by decide
/-- P3. -/
theorem test_readSerialNumber :
    nextHas (exec .readSerialNumber State.reset) (fun t =>
      t.txlog == [0x7E, 0x00, 0xD0, 0x01, 0x03, 0x2B, 0x7E] && hostRead .op t == 4) = true := by decide
/-- P2. -/
theorem test_readFirmwareVersion :
    nextHas (exec .readFirmwareVersion State.reset) (fun t =>
      t.txlog == [0x7E, 0x00, 0xD1, 0x00, 0x2E, 0x7E] && hostRead .op t == 5 && hostRead .phase t == 1) = true := by
  decide
/-- O18, P3: refused while a response is awaited, T.rxq untouched. -/
theorem test_issue_busy :
    nextHas (exec .readValues { waiting .readProductType with rxq := [0x45] }) (fun t =>
      t.op == .readProductType && t.rxq == [0x45] && t.txlog == [] && t.refusedIssues == [2]) = true := by decide
/-- O19. -/
theorem test_reservedOp6 :
    nextHas (exec .reservedOp6 { State.reset with phase := .timedOut, rxq := [0x45, 0x46, 0x30] }) (fun t =>
      t == { State.reset with phase := .timedOut, rxq := [0x45, 0x46, 0x30], refusedIssues := [6] }) = true := by decide
/-- O19. -/
theorem test_reservedOp7 :
    nextHas (exec .reservedOp7 State.reset) (fun t => t == { State.reset with refusedIssues := [7] }) = true := by
  decide
/-- O4: F-M1, four escapes on the wire. -/
theorem test_respMeasurement :
    nextHas (exec (.respMeasurement fM1) (waiting .readValues)) (fun t =>
      t.meas.toList == fM1words && t.rkind == .measurement && !t.fallback && t.phase == .responseComplete &&
        t.rxq == []) = true := by decide +kernel
/-- O7: 47 bytes AA, nothing of the frame is checked. -/
theorem test_respMeasurement_unchecked :
    nextHas (exec (.respMeasurement (List.replicate 47 0xAA)) (waiting .readValues)) (fun t =>
      t.meas.toList == List.replicate 10 0xAAAAAAAA && !t.fallback) = true := by decide +kernel
/-- O8. -/
theorem test_respDeviceInfo :
    nextHas (exec (.respDeviceInfo fP1) (waiting .readProductType)) (fun t =>
      t.str.toList == [0x30, 0x30, 0x30, 0x38, 0x30, 0x30, 0x30, 0x30] ++ List.replicate 9 0 && t.strlen == 17 &&
        t.rkind == .string) = true := by decide +kernel
/-- O11. -/
theorem test_respDeviceInfo_not_ascii :
    nextHas (exec (.respDeviceInfo fN2) (waiting .readSerialNumber)) (fun t =>
      t.rkind == .decodeError && t.phase == .responseComplete && t.strlen == 0 && t.str.toList == List.replicate 17 0 &&
        t.count == 24) = true := by decide +kernel
/-- O13: F-V2, "1.2". -/
theorem test_respFirmware :
    nextHas (exec (.respFirmware fV2) (waiting .readFirmwareVersion)) (fun t =>
      t.rkind == .version && apiResult t == some (.string [0x31, 0x2E, 0x32])) = true := by decide +kernel
/-- O14: F-V3, -1 and -128 as the host reads them. -/
theorem test_respFirmware_negative :
    nextHas (exec (.respFirmware fV3) (waiting .readFirmwareVersion)) (fun t =>
      hostRead .vmaj t == -1 && hostRead .vmin t == -128) = true := by decide +kernel
/-- Section 2.5, row 2. -/
theorem test_esc7E :
    nextHas (exec .esc7E (waiting .readValues)) (fun t =>
      t.count == 1 && !t.esc && t.rxbuf.toList.take 2 == [0x7E, 0x00]) = true := by decide
/-- Section 2.5, row 4 read with 7D 5D last: a pending 7D stays, the escape after it is 7D. -/
theorem test_esc7D :
    nextHas (exec .esc7D (holding .readValues [0x7D] true)) (fun t =>
      t.count == 2 && !t.esc && t.rxbuf.toList.take 3 == [0x7D, 0x7D, 0x00]) = true := by decide
/-- P2: the first 7D 31 of F-V2. -/
theorem test_esc11 :
    nextHas (exec .esc11 (holding .readFirmwareVersion (fV2.take 8) false)) (fun t =>
      t.count == 9 && t.rxbuf.toList.take 9 == fV2.take 9) = true := by decide
/-- O16 with 7D 33: it completes on the 7D, the second byte stays in T.rxq. -/
theorem test_esc13 :
    nextHas (exec .esc13 (holding .readFirmwareVersion (List.replicate 13 0) false)) (fun t =>
      t.phase == .responseComplete && t.rxq == [0x33] && t.vmaj == 0 && t.rxbuf.toList[13]? == some 0x7D) = true := by
  decide

/-! ### One transport event -/

/-- P2, "rx 1": 31 completes the escape, COUNT unchanged. -/
theorem test_rxByte_replaces :
    nextHas (rxByte { holding .readFirmwareVersion (fV2.take 12 ++ [0x7D]) true with rxq := [0x31, 0x7E] }) (fun t =>
      t.count == 13 && !t.esc && t.rxbuf.toList[12]? == some 0x11 && t.rxq == [0x7E]) = true := by decide
/-- P2, the last "rx 1". -/
theorem test_rxByte_completes :
    nextHas (rxByte { holding .readFirmwareVersion (fV2.take 13) false with rxq := [0x7E] }) (fun t =>
      t.phase == .responseComplete && t.vmaj == 1 && t.vmin == 2 && t.rxq == []) = true := by decide
/-- P3, "timeout". -/
theorem test_rxTimeout :
    nextHas (rxTimeout (holding .readSerialNumber [0x7E, 0x00, 0xD0, 0x00, 0x11, 0x41] false)) (fun t =>
      t == { State.reset with op := .readSerialNumber, phase := .timedOut, rkind := .timeout }) = true := by decide
theorem test_events_not_enabled :
    (refusedAs (rxByte (waiting .readValues)) .rxByteNotEnabled &&
      refusedAs (rxTimeout { waiting .readValues with rxq := [0x00] }) .rxTimeoutNotEnabled &&
      refusedAs (rxTimeout State.reset) .rxTimeoutNotEnabled) = true := by decide
/-- O15: one stale byte first, mis-framed without an error. -/
theorem test_misframing :
    nextHas (deliver (0xFF :: fV1) (waiting .readFirmwareVersion)) (fun t =>
      t.vmaj == 7 && t.vmin == 1 && t.rxq == [0x7E]) = true := by decide +kernel
/-- The wire forms of section 2.10. -/
theorem test_wire : wire fM1 = fM1raw ∧ wire fP1 = fP1raw ∧ wire fV2 = fV2raw ∧ wire fV3 = fV3 := by decide

/-! ### Witnesses: a state and operands that meet all the hypotheses of each obligation that has some, with one for
each clause at the boundary of its range -/

/-- ChecksumIsComplementOfLowByteOfSum: a sum of exactly 0x100, and one of exactly 0xFF. -/
theorem test_witness_checksum :
    (([0x80, 0x80] : List Byte).map BitVec.toNat).sum % 256 = 0 ∧
      (([0xFF] : List Byte).map BitVec.toNat).sum % 256 = 255 := by decide

/-- EscapeTable…, ForwardStuff…, EveryEscapeSequence…: a byte that is escaped, and its neighbour that is not. -/
theorem test_witness_esc : esc 0x7E = some 0x5E ∧ unesc 0x5E = some 0x7E ∧ esc 0x7F = none := by decide

/-- ReverseStuffingIsNoOp…: a sequence with a 7D and no escape sequence, and one with an escape sequence. -/
theorem test_witness_noEscapeSequence :
    noEscapeSequence [0x7D, 0x00] = true ∧ noEscapeSequence [0x7D, 0x5E] = false := by decide

/-- OneMoreRawByte…: each of its cases. -/
theorem test_witness_oneMoreRawByte :
    (endsUnpaired [0x00, 0x7D] = true ∧ unesc 0x5E = some 0x7E) ∧
      (endsUnpaired [0x7D, 0x5D] = false ∧ unesc 0x31 = some 0x11) ∧
      (endsUnpaired [0x7D] = true ∧ unesc 0x7D = none) := by decide

/-- ReversalOfParts…: section 2.4, an escape sequence split, and one not split. -/
theorem test_witness_reversalOfParts :
    (reverseStuffing ([0x00, 0x7D] ++ [0x5E, 0x01]) ≠ reverseStuffing [0x00, 0x7D] ++ reverseStuffing [0x5E, 0x01]) ∧
      endsUnpaired [0x00, 0x7D] = true ∧
      reverseStuffing ([0x00] ++ [0x7D, 0x5E]) = reverseStuffing [0x00] ++ reverseStuffing [0x7D, 0x5E] := by decide

/-- BuiltFrame…: 255 data bytes are the most there can be, 256 are refused. -/
theorem test_witness_dataLength :
    ((some (0x01 : Byte)).toList ++ List.replicate 254 (0x00 : Byte)).length = 255 ∧
      255 < ((none : Option Byte).toList ++ List.replicate 256 (0x00 : Byte)).length := by
  decide +kernel

/-- PayloadIsTheSlice…: a frame of seven bytes has an empty payload, one of six is too short. -/
theorem test_witness_slice :
    extractPayload ([1, 2, 3, 4, 5] ++ [] ++ [6, 7]) = [] ∧ ([1, 2, 3, 4, 5, 6] : List Byte).length < 7 := by decide

/-- Measurement…, Firmware…: the lengths that decode, and those beside them. -/
theorem test_witness_lengths :
    (List.replicate 40 (0x00 : Byte)).length = 40 ∧ (List.replicate 39 (0x00 : Byte)).length ≠ 40 ∧
      (List.replicate 41 (0x00 : Byte)).length ≠ 40 ∧ (List.replicate 6 (0x00 : Byte)).length ≠ 7 ∧
      (List.replicate 8 (0x00 : Byte)).length ≠ 7 := by
  simp

/-- Ascii…: 0x7F is the last that is valid, 0x80 the first that is not. -/
theorem test_witness_ascii :
    (∀ b ∈ ([0x00, 0x7F] : List Byte), b.toNat ≤ 127) ∧ ∃ b ∈ ([0x41, 0x80] : List Byte), 128 ≤ b.toNat := by decide

/-- VersionText…: two pairs with the same text are the same pair, here they are; a number that is not 0, whose digits
end in one. -/
theorem test_witness_versionText :
    formatVersion (0x80#8).toInt (0x7F#8).toInt = formatVersion (-128) 127 ∧ (10 : Nat) ≠ 0 ∧
      digits 10 = [0x31, 0x30] ∧ decimalValue [0x31, 0x30] = 10 := by decide

/-- DecodingAnEncoding…, AcceptedImages…: a well-formed response, and an accepted image of each form. -/
theorem test_witness_images :
    WellFormed (.respMeasurement fM1) = true ∧ decodesTo [0x02] .readValues = true ∧
      decodesTo [0x7E, 0x00, 0x03, 0x00, 0xFC, 0x7E] .readValues = true := by decide

/-- Descriptors…, AcceptedOperationForgets…: a row and its operation; two states that agree outside the framer and
differ within it. -/
theorem test_witness_forgets :
    let s := State.reset
    let t := { holding .readFirmwareVersion [0x7D] true with phase := .timedOut, rkind := .timeout, rxq := [0x5E] }
    hostCode .readFirmwareVersion = some (Op.code .readFirmwareVersion) ∧ s.phase ≠ .requestSent ∧
      t.phase ≠ .requestSent ∧ s.txlog = t.txlog ∧ s.events = t.events ∧ s.refusedIssues = t.refusedIssues ∧
      s ≠ t := by decide

/-- WireForm…: well-formed responses of 14 and of 24 bytes. -/
theorem test_witness_wellFormedResponse :
    wellFormedResponse fV1 14 = true ∧ wellFormedResponse fP1 24 = true ∧ wellFormedResponse fM1 47 = true := by decide

/-- StartAndStop…, ReadingOperations…, DeliveredBytesWait…: each phase in which an operation is accepted. -/
theorem test_witness_notWaiting :
    State.reset.phase ≠ .requestSent ∧ ({ State.reset with phase := .responseComplete } : State).phase ≠ .requestSent ∧
      ({ State.reset with phase := .timedOut } : State).phase ≠ .requestSent ∧
      deliveredBytes .esc7E = some [0x7D, 0x5E] := by decide

/-- IssueDuring…: a waiting state and a code, a reserved one too. -/
theorem test_witness_busy :
    (waiting .readValues).phase = .requestSent ∧ hostCode .stop = some 1 ∧ hostCode .reservedOp7 = some 7 := by decide

/-- TableByteAfterPending…: 7D pending as the first byte, and as the last but the missing one. -/
theorem test_witness_tableByte :
    let s := { holding .readFirmwareVersion [0x7D] true with rxq := [0x5E], events := [.rxByte] }
    let u := { holding .readFirmwareVersion (fV2.take 12 ++ [0x7D]) true with rxq := [0x31], events := [.rxByte] }
    (s.Waits 14 .firmware ∧ s.count < 14 ∧ 1 ≤ s.count ∧ s.esc = true ∧ unesc 0x5E = some 0x7E ∧
      s.rxq = [0x5E] ∧ s.events = [.rxByte]) ∧
    (u.Waits 14 .firmware ∧ u.count + 1 = 14 ∧ 1 ≤ u.count ∧ u.esc = true ∧ unesc 0x31 = some 0x11) := by
  simp only [State.Waits]; decide

/-- OtherByte…: the first byte, and the last but one with a 7D pending. -/
theorem test_witness_otherByte :
    let s := { waiting .readValues with rxq := [0x7D], events := [.rxByte] }
    let u := { holding .readFirmwareVersion (List.replicate 11 0 ++ [0x7D]) true with
      rxq := [0x7D], events := [.rxByte] }
    (s.Waits 47 .measurement ∧ s.count + 1 < 47 ∧ s.esc = false ∧ s.rxq = [0x7D] ∧ s.events = [.rxByte]) ∧
    (u.Waits 14 .firmware ∧ u.count + 2 = 14 ∧ u.esc = true ∧ unesc 0x7D = none) := by
  simp only [State.Waits]; decide

/-- LastByteCompletesReadValues. -/
theorem test_witness_lastByteReadValues :
    let s := { holding .readValues (fM1.take 46) false with rxq := [0x7E, 0x00], events := [.rxByte] }
    s.phase = .requestSent ∧ s.op = .readValues ∧ s.count = 46 ∧ s.esc = false ∧ s.rxq = 0x7E :: [0x00] ∧
      s.events = .rxByte :: [] := by decide

/-- LastByteCompletesAnIdentificationRead: seventeen characters up to 0x7F, and one of 0x80. -/
theorem test_witness_lastByteIdentification :
    let s := { holding .readSerialNumber (List.replicate 23 0x7F) false with rxq := [0x7E], events := [.rxByte] }
    let u := { holding .readProductType (List.replicate 23 0x80) false with rxq := [0x7E], events := [.rxByte] }
    (s.phase = .requestSent ∧ s.op = .readSerialNumber ∧ s.count = 23 ∧ s.esc = false ∧ s.rxq = [0x7E] ∧
      s.events = [.rxByte] ∧ ∀ k : Fin 17, (s.rxbuf[5 + k.val]'(by omega)).toNat ≤ 127) ∧
    (u.phase = .requestSent ∧ u.op = .readProductType ∧ u.count = 23 ∧ u.esc = false ∧
      (u.rxbuf[5 + (0 : Fin 17).val]'(by decide)).toNat = 128) := by decide +kernel

/-- LastByteCompletesReadFirmwareVersion, a 7D pending that stays. -/
theorem test_witness_lastByteFirmware :
    let s := { holding .readFirmwareVersion (List.replicate 12 0 ++ [0x7D]) true with
      rxq := [0x7E], events := [.rxByte] }
    s.phase = .requestSent ∧ s.op = .readFirmwareVersion ∧ s.count = 13 ∧ unesc 0x7E = none ∧ s.rxq = [0x7E] ∧
      s.events = [.rxByte] := by decide

/-- Timeout…, TransportEvents…, ResultDoesNotDependOnChunking: waiting with nothing queued. -/
theorem test_witness_timeout :
    let s := { holding .readValues [0x7E] false with events := [.rxTimeout] }
    s.phase = .requestSent ∧ s.rxq = [] ∧ s.events = [.rxTimeout] := by decide

/-- SensorAppend…, Reset…, StepRuns…, MachineRests…: one event of each form they speak of. -/
theorem test_witness_events :
    ({ State.reset with events := [.sensorAppend [0x00]] } : State).events = .sensorAppend [0x00] :: [] ∧
      ({ waiting .readValues with events := [.reset] } : State).events = .reset :: [] ∧
      decodesTo [0x7D, 0x5E] .esc7E = true ∧ decodeTableWord 16 0x7D33 = some .esc13 ∧
      rejectsAs [0x08] .hostCodeTooWide = true ∧ State.reset.events = [] := by decide

/-- EscapeRowStores…: nothing received, and two bytes missing with a 7D pending. -/
theorem test_witness_escapeRowStores :
    ((waiting .readValues).Waits 47 .measurement ∧ (waiting .readValues).count + 1 < 47 ∧
      (waiting .readValues).rxq = []) ∧
    (let s := holding .readProductType (List.replicate 21 0 ++ [0x7D]) true;
      s.Waits 24 .ascii ∧ s.count + 2 = 24 ∧ s.rxq = [] ∧ s.esc = true) := by
  simp only [State.Waits]; decide

/-- EscapeRowCompletes…. -/
theorem test_witness_escapeRowCompletes :
    let s := holding .readFirmwareVersion (List.replicate 13 0) false
    s.Waits 14 .firmware ∧ s.count + 1 = 14 ∧ s.rxq = [] ∧ deliveredBytes .esc13 = some [0x7D, 0x33] := by
  simp only [State.Waits]; decide

/-- MeasurementResponse…, DeviceInfoResponse…, FirmwareResponse…, BufferHolds…, HeaderAndTrailer…: a framer waiting
with nothing received, and a response of its length. -/
theorem test_witness_responses :
    ((waiting .readValues).phase = .requestSent ∧ (waiting .readValues).op = .readValues ∧
      (waiting .readValues).count = 0 ∧ (waiting .readValues).esc = false ∧ (waiting .readValues).rxq = [] ∧
      fM1.length = 47) ∧
    ((waiting .readSerialNumber).op = .readSerialNumber ∧ fN2.length = 24 ∧ fP1.length = 24 ∧
      (∀ k : Fin 17, (fP1[5 + k.val]'(by simp [fP1]; omega)).toNat ≤ 127) ∧
      (fN2[5 + (3 : Fin 17).val]'(by decide)).toNat = 0xC3) ∧
    ((waiting .readFirmwareVersion).op = .readFirmwareVersion ∧ fV1.length = 14) := by decide

/-- BufferHolds…: thirteen of fourteen logical bytes. -/
theorem test_witness_buffer :
    (waiting .readFirmwareVersion).Waits 14 .firmware ∧ (reverseStuffing (fV2raw.take 14)).length = 13 ∧
      (reverseStuffing (fV2raw.take 15)).length = 13 := by
  simp only [State.Waits]; decide

/-- HeaderAndTrailer…: two firmware responses that differ in every byte of header and trailer. -/
theorem test_witness_headerAndTrailer :
    let s := waiting .readFirmwareVersion
    let h : List Byte := [0x7E, 0x00, 0xD1, 0x00, 0x07]
    let h' : List Byte := [0x11, 0x22, 0x33, 0x44, 0x55]
    let p : List Byte := [0x01, 0x02, 0x00, 0x07, 0x00, 0x02, 0x00]
    s.Waits 14 .firmware ∧ s.count = 0 ∧ s.esc = false ∧ s.rxq = [] ∧ h.length = 5 ∧ h'.length = 5 ∧
      p.length + 7 = 14 ∧ deliveredBytes (.respFirmware (h ++ p ++ [0x1B, 0x7E])) = some (wire (h ++ p ++ [0x1B, 0x7E])) ∧
      deliveredBytes (.respFirmware (h' ++ p ++ [0x00, 0x00])) = some (wire (h' ++ p ++ [0x00, 0x00])) ∧
      nextHas (exec (.respFirmware (h ++ p ++ [0x1B, 0x7E])) s) (fun t => t.vmaj == 1) = true ∧
      nextHas (exec (.respFirmware (h' ++ p ++ [0x00, 0x00])) s) (fun t => t.vmaj == 1) = true := by
  simp only [State.Waits]; decide +kernel

/-- DeliveryWritesResults…: a delivery that ends the operation, one that does not, one that waits. -/
theorem test_witness_delivery :
    deliveredBytes .esc11 = some [0x7D, 0x31] ∧
      nextHas (exec .esc11 (holding .readFirmwareVersion (List.replicate 13 0) false))
        (fun t => t.phase == .responseComplete) = true ∧
      nextHas (exec .esc11 (waiting .readValues)) (fun t => t.phase == .requestSent) = true ∧
      nextHas (exec .esc11 State.reset) (fun t => t.phase == .idle) = true := by decide

/-- RawBytesTaken…: fourteen logical bytes in as many raw bytes, in sixteen, and two of two escapes and one more. -/
theorem test_witness_rawBytes :
    rawBytesFor fV1 14 = some 14 ∧ rawBytesFor fV2raw 14 = some 16 ∧
      rawBytesFor [0x7D, 0x5E, 0x00] 2 = some 3 ∧ rawBytesFor (fV1.take 13) 14 = none ∧
      rawBytesFor ([0xFF] ++ fV1) 14 = some 14 := by decide

/-- A schedule from reset: the Issue, what the sensor sends, and what happens to it. -/
def scheduled (c : BitVec 3) (q : List Byte) (es : List Event) : State :=
  { State.reset with events := .issue c :: .sensorAppend q :: es }

/-- ReadValuesFromRequestToResult: O4 and one surplus byte. -/
theorem test_witness_wholeReadValues :
    let s := scheduled 2 (fM1raw ++ [0xAA]) (List.replicate 51 .rxByte ++ [])
    s.phase ≠ .requestSent ∧ rawBytesFor (fM1raw ++ [0xAA]) 47 = some 51 ∧
      s.events = .issue 2 :: .sensorAppend (fM1raw ++ [0xAA]) :: (List.replicate 51 .rxByte ++ []) := by
  decide +kernel

/-- IdentificationReadFromRequestToResult: O8 and one surplus byte. -/
theorem test_witness_wholeIdentification :
    let s := scheduled 3 (fP1raw ++ [0xAA]) (List.replicate 25 .rxByte ++ [])
    s.phase ≠ .requestSent ∧ rawBytesFor (fP1raw ++ [0xAA]) 24 = some 25 ∧
      s.events = .issue (Op.code .readProductType) :: .sensorAppend (fP1raw ++ [0xAA]) ::
        (List.replicate 25 .rxByte ++ []) := by
  decide +kernel

/-- FirmwareReadFromRequestToResult: O13 and one surplus byte. -/
theorem test_witness_wholeFirmware :
    let s := scheduled 5 (fV2raw ++ [0xAA]) (List.replicate 16 .rxByte ++ [])
    s.phase ≠ .requestSent ∧ rawBytesFor (fV2raw ++ [0xAA]) 14 = some 16 ∧
      s.events = .issue 5 :: .sensorAppend (fV2raw ++ [0xAA]) :: (List.replicate 16 .rxByte ++ []) := by
  decide +kernel

/-- IdentificationRead…: both outcomes, F-P1 and F-N2, in the logical bytes that reach the buffer. -/
theorem test_witness_identification :
    reverseStuffing fP1raw = fP1 ∧ (∀ b ∈ (fP1.drop 5).take 17, b.toNat ≤ 127) ∧
      ∃ b ∈ (fN2.drop 5).take 17, 128 ≤ b.toNat := by decide

/-- ShortResponse…: one raw byte short (O9), and nothing at all. -/
theorem test_witness_shortResponse :
    let s := scheduled 3 (fP1raw.take 24) (List.replicate (fP1raw.take 24).length .rxByte ++ .rxTimeout :: [])
    s.phase ≠ .requestSent ∧ Op.response .readProductType = some ⟨24, .ascii⟩ ∧
      buildFrame (descriptor .readProductType).cmd (descriptor .readProductType).subcommand
        (descriptor .readProductType).args = some [0x7E, 0x00, 0xD0, 0x01, 0x01, 0x2D, 0x7E] ∧
      rawBytesFor (fP1raw.take 24) 24 = none ∧ rawBytesFor [] 24 = none ∧
      s.events = .issue (Op.code .readProductType) :: .sensorAppend (fP1raw.take 24) ::
        (List.replicate (fP1raw.take 24).length .rxByte ++ .rxTimeout :: []) := by
  decide +kernel

/-! The invariants, in states that are not the reset state. -/

/-- A waiting framer that has received nothing meets the invariants, whatever is queued and still to come. -/
theorem inv_waiting (op : Op) (r : Response) (h : op.response = some r) (q : List Byte) (es : List Event) :
    ({ waiting op with rxq := q, events := es } : State).Inv := by
  have := response_le h
  constructor <;> simp [waiting, State.reset, h]
  omega

/-- So does one with an escape pending. -/
theorem inv_pending (es : List Event) :
    ({ holding .readFirmwareVersion [0x7D] true with rxq := [0x5E], events := es } : State).Inv := by
  constructor <;> simp [holding, waiting, State.reset, Op.response, descriptor, memWrite]

/-- The terminal state of an operation with the result kind and COUNT given, its result registers clear. -/
def ended (op : Op) (p : Phase) (k : ResultKind) (n : Nat) : State :=
  { State.reset with op := op, phase := p, rkind := k, count := n }

/-- A string read that got seventeen letters. -/
def gotString (op : Op) : State :=
  { ended op .responseComplete .string 24 with str := Vector.replicate 17 0x41, strlen := 17 }

/-- A firmware read that got 1 and 2. -/
def gotVersion : State := { ended .readFirmwareVersion .responseComplete .version 14 with vmaj := 1, vmin := 2 }

/-- A terminal state with clear result registers, of an operation and a result kind that belong together. -/
theorem inv_ended (op : Op) (k : ResultKind) (n : Nat) (hn : n ≤ 47) (hk : completedAs op k n) (hs : k ≠ .string)
    (ht : k ≠ .timeout) : (ended op .responseComplete k n).Inv := by
  have tail : (ended op .responseComplete k n).rxbuf.toList.drop n = List.replicate (47 - n) 0 := by
    show (Vector.replicate 47 (0 : Byte)).toList.drop n = _
    rw [Vector.toList_replicate, List.drop_replicate]
  refine ⟨?_, ⟨hn, tail⟩, ?_, ?_, ?_, ?_, ?_, ?_, ?_, ?_, ?_, ?_⟩ <;> simp [ended, State.reset, hk, hs, ht]

theorem inv_timed_out (op : Op) (h : op.response.isSome = true) : (ended op .timedOut .timeout 0).Inv := by
  constructor <;> simp [ended, State.reset, h]

theorem inv_gotString (op : Op) (h : op = .readProductType ∨ op = .readSerialNumber) : (gotString op).Inv := by
  rcases h with rfl | rfl <;> constructor <;> simp [gotString, ended, State.reset, completedAs]

theorem inv_gotVersion : gotVersion.Inv := by
  constructor <;> simp [gotVersion, ended, State.reset, completedAs]

/-- DeliveryIsAnAppend…, TransportEvents…, EveryStep…, PhaseMoves…, TransportStreams…, NoFault…: states that meet the
invariants, with an event to come that has a next state and one that has none. -/
theorem test_witness_inv_steps :
    (∃ s : State, s.Inv ∧ s.phase = .requestSent ∧ s.rxq ≠ [] ∧ s.events = .rxByte :: [] ∧
      nextHas (step s) (fun t => t.count == 1) = true) ∧
    (∃ s : State, s.Inv ∧ s.events = .rxTimeout :: [] ∧ nextHas (step s) (fun t => t.phase == .timedOut) = true) ∧
    (∃ s : State, s.Inv ∧ s.events = .issue 2 :: [] ∧ nextHas (step s) (fun t => t.refusedIssues == [2]) = true) ∧
    (∃ s : State, s.Inv ∧ s.events = .image [0x7D, 0x5E] :: [] ∧ deliveredBytes .esc7E = some [0x7D, 0x5E] ∧
      nextHas (step s) (fun t => t.count == 1) = true) ∧
    (∃ s : State, s.Inv ∧ s.events = .image [0x08] :: [] ∧ rejectsAs [0x08] .hostCodeTooWide = true) ∧
    (∃ s : State, s.Inv ∧ s.events = .rxByte :: [] ∧ s.rxq = [] ∧ refusedAs (step s) .rxByteNotEnabled = true) :=
  ⟨⟨_, inv_pending [.rxByte], by decide, by decide, rfl, by decide⟩,
    ⟨_, inv_waiting .readValues _ rfl [] [.rxTimeout], rfl, by decide⟩,
    ⟨_, inv_waiting .readValues _ rfl [] [.issue 2], rfl, by decide⟩,
    ⟨_, inv_waiting .readValues _ rfl [] [.image [0x7D, 0x5E]], rfl, rfl, by decide⟩,
    ⟨_, inv_waiting .readValues _ rfl [] [.image [0x08]], rfl, by decide⟩,
    ⟨_, inv_waiting .readValues _ rfl [] [.rxByte], rfl, rfl, by decide⟩⟩

/-- CallerGetsExactly…: a terminal state that meets the invariants for each row of R168, with the value of that row. -/
theorem test_witness_caller :
    (∀ op ∈ [Op.start, .stop], let s := ended op .responseComplete .noResult 0;
      s.Inv ∧ done s = true ∧ apiResult s = some .nothing) ∧
    (let s := ended .readValues .responseComplete .measurement 47;
      s.Inv ∧ done s = true ∧ apiResult s = some (.measurement (Vector.replicate 10 0) false)) ∧
    (∀ op ∈ [Op.readValues, .readProductType, .readSerialNumber, .readFirmwareVersion],
      let s := ended op .timedOut .timeout 0;
      s.Inv ∧ done s = true ∧ apiResult s = some .timeout) ∧
    (∀ op ∈ [Op.readProductType, .readSerialNumber],
      ((gotString op).Inv ∧ done (gotString op) = true ∧
        apiResult (gotString op) = some (.string (List.replicate 17 0x41))) ∧
      (let s := ended op .responseComplete .decodeError 24;
        s.Inv ∧ done s = true ∧ apiResult s = some .decodeError)) ∧
    (gotVersion.Inv ∧ done gotVersion = true ∧ apiResult gotVersion = some (.string [0x31, 0x2E, 0x32])) := by
  refine ⟨?_, ?_, ?_, ?_, inv_gotVersion, by decide, by decide⟩
  · simp only [List.forall_mem_cons, List.not_mem_nil, false_implies, implies_true, and_true]
    exact ⟨⟨inv_ended _ _ _ (by decide) ⟨rfl, rfl⟩ (by decide) (by decide), by decide, by decide⟩,
      inv_ended _ _ _ (by decide) ⟨rfl, rfl⟩ (by decide) (by decide), by decide, by decide⟩
  · exact ⟨inv_ended _ _ _ (by decide) ⟨rfl, rfl⟩ (by decide) (by decide), by decide, by decide⟩
  · simp only [List.forall_mem_cons, List.not_mem_nil, false_implies, implies_true, and_true]
    exact ⟨⟨inv_timed_out _ rfl, by decide, by decide⟩, ⟨inv_timed_out _ rfl, by decide, by decide⟩,
      ⟨inv_timed_out _ rfl, by decide, by decide⟩, inv_timed_out _ rfl, by decide, by decide⟩
  · simp only [List.forall_mem_cons, List.not_mem_nil, false_implies, implies_true, and_true]
    exact ⟨⟨⟨inv_gotString _ (.inl rfl), by decide, by decide⟩,
        inv_ended _ _ _ (by decide) ⟨.inr rfl, rfl⟩ (by decide) (by decide), by decide, by decide⟩,
      ⟨inv_gotString _ (.inr rfl), by decide, by decide⟩,
      inv_ended _ _ _ (by decide) ⟨.inr rfl, rfl⟩ (by decide) (by decide), by decide, by decide⟩

/-- RegistersNotMeaningful…, HostReads…: invariant states in which RKIND is 3, 2 and neither, with what the host reads. -/
theorem test_witness_hostReads :
    (gotVersion.Inv ∧ hostRead .rkind gotVersion = 3 ∧ hostRead .vmin gotVersion = 2) ∧
    ((gotString .readSerialNumber).Inv ∧ hostRead .rkind (gotString .readSerialNumber) = 2 ∧
      hostRead (.str 16) (gotString .readSerialNumber) = 0x41 ∧ hostRead .op (gotString .readSerialNumber) = 4) ∧
    ((ended .readValues .timedOut .timeout 0).Inv ∧ hostRead .rkind (ended .readValues .timedOut .timeout 0) = 4 ∧
      hostRead .phase (ended .readValues .timedOut .timeout 0) = 3) :=
  ⟨⟨inv_gotVersion, by decide, by decide⟩, ⟨inv_gotString _ (.inr rfl), by decide, by decide, by decide⟩,
    inv_timed_out _ rfl, by decide, by decide⟩

/-- TransportStreams…: an accepted Issue that empties a queue, and a refused one, a byte taken and one that waits. -/
theorem test_witness_streams :
    (let s := { gotVersion with rxq := [0xAA], events := [.issue 5] };
      s.phase ≠ .requestSent ∧ issuedCode (.issue 5) = some (Op.code .readFirmwareVersion) ∧
        nextHas (step s) (fun t => t.rxq == [] && t.txlog == [0x7E, 0x00, 0xD1, 0x00, 0x2E, 0x7E]) = true) ∧
    (let s := { waiting .readValues with rxq := [0xAA], events := [.issue 5] };
      s.phase = .requestSent ∧ nextHas (step s) (fun t => t.rxq == [0xAA] && t.txlog == []) = true) ∧
    (let s := { State.reset with rxq := [0xAA], events := [.image [0x07]] };
      (∀ op : Op, issuedCode (.image [0x07]) ≠ some op.code) ∧
        nextHas (step s) (fun t => t.rxq == [0xAA] && t.txlog == []) = true) ∧
    (let s := { waiting .readValues with rxq := [0xAA], events := [.rxByte] };
      (∀ op : Op, issuedCode .rxByte ≠ some op.code) ∧ nextHas (step s) (fun t => t.rxq == []) = true) := by
  refine ⟨by decide, by decide, ⟨fun op => ?_, by decide⟩, fun op => ?_, by decide⟩ <;> cases op <;> decide

end Sys2Proof.Tests
end

/-! Proofs: the sensor's append (R46). -/
section
namespace Sys2Proof.Machine

@[simp] theorem happen_sensorAppend (bs : List Byte) (s : State) :
    happen (.sensorAppend bs) s = .next (s.sensorAppend bs) := rfl

theorem State.sensorAppend_eq_update_rxq (s : State) (bs : List Byte) :
    s.sensorAppend bs = { s with rxq := s.rxq ++ bs } := rfl

/-- Settles O33: the event is enabled in every phase, and its next state is the update of T.rxq alone. -/
theorem sensorMayAppendAnyBytesAtAnyTime : Obligations.SensorMayAppendAnyBytesAtAnyTime := by
  intro s bs
  rw [happen_sensorAppend, State.sensorAppend_eq_update_rxq]

end Sys2Proof.Machine
end

/-! Proofs: the escape table (R72). -/
section
namespace Sys2Proof.Machine

/-- The domain of `esc` is the first column of the table (R72). -/
theorem isSome_esc_iff (b : Byte) : (esc b).isSome ↔ b = 0x7E ∨ b = 0x7D ∨ b = 0x11 ∨ b = 0x13 := by
  simp only [Option.isSome_iff_exists, esc_eq_some_iff, exists_or, exists_and_left, exists_eq, and_true]

/-- The domain of `unesc` is the second column of the table (R72). -/
theorem isSome_unesc_iff (c : Byte) : (unesc c).isSome ↔ c = 0x5E ∨ c = 0x5D ∨ c = 0x31 ∨ c = 0x33 := by
  simp only [Option.isSome_iff_exists, unesc_eq_some_iff, exists_or, exists_eq_left]

/-- Settles O2: the rows by evaluation, the bijection and both domains from the table read forwards and backwards. -/
theorem escapeTableIsABijectionOnItsFourRows : Obligations.EscapeTableIsABijectionOnItsFourRows :=
  ⟨rfl, rfl, rfl, rfl, esc_eq_some_iff_unesc, isSome_esc_iff, isSome_unesc_iff⟩

end Sys2Proof.Machine
end

/-! Proofs: the checksum (R110). -/
section
namespace Sys2Proof.Machine

theorem toNat_checksum (s : List Byte) : (checksum s).toNat = 255 - (s.map BitVec.toNat).sum % 256 := by
  simp only [checksum, BitVec.toNat_not, BitVec.toNat_ofNat]

/-- Settles O1: the value of the checksum as a number fixes it at the two ends of its range, and the examples are
evaluated. -/
theorem checksumIsComplementOfLowByteOfSum : Obligations.ChecksumIsComplementOfLowByteOfSum := by
  refine ⟨toNat_checksum, rfl, fun s h => BitVec.eq_of_toNat_eq ?_, fun s h => BitVec.eq_of_toNat_eq ?_,
    by decide, by decide⟩
  · rw [toNat_checksum, h]; rfl
  · rw [toNat_checksum, h]; rfl

end Sys2Proof.Machine
end

/-! Proofs: stuffing (R111). -/
section
namespace Sys2Proof.Machine

theorem forwardStuff_cons_reserved {b c : Byte} (h : esc b = some c) (s : List Byte) :
    forwardStuff (b :: s) = escByte :: c :: forwardStuff s := by
  simp [forwardStuff, h]

theorem forwardStuff_cons_plain {b : Byte} (h : esc b = none) (s : List Byte) :
    forwardStuff (b :: s) = b :: forwardStuff s := by
  simp [forwardStuff, h]

theorem reservedCount_cons_reserved {b c : Byte} (h : esc b = some c) (s : List Byte) :
    reservedCount (b :: s) = reservedCount s + 1 :=
  List.countP_cons_of_pos (by simp [h])

theorem reservedCount_cons_plain {b : Byte} (h : esc b = none) (s : List Byte) :
    reservedCount (b :: s) = reservedCount s :=
  List.countP_cons_of_neg (by simp [h])

theorem stuffedBody_pair {c o : Byte} (h : unesc c = some o) (r : List Byte) :
    stuffedBody (escByte :: c :: r) = stuffedBody r := by
  simp [stuffedBody, h]

theorem stuffedBody_plain {b : Byte} (h : esc b = none) (r : List Byte) : stuffedBody (b :: r) = stuffedBody r := by
  cases r <;> simp [stuffedBody, h, ne_escByte_of_esc_none h]

/-- The second bytes of the escape table are not in its first column (R72). -/
theorem esc_second_byte {b c : Byte} (h : esc b = some c) : esc c = none := by
  rcases (esc_eq_some_iff b c).1 h with ⟨-, rfl⟩ | ⟨-, rfl⟩ | ⟨-, rfl⟩ | ⟨-, rfl⟩ <;> rfl

/-- Each reserved byte costs one more byte on the wire (R71). -/
theorem length_forwardStuff (s : List Byte) : (forwardStuff s).length = s.length + reservedCount s := by
  induction s with
  | nil => rfl
  | cons b s ih =>
    cases h : esc b with
    | none =>
      rw [forwardStuff_cons_plain h, reservedCount_cons_plain h, List.length_cons, List.length_cons, ih]
      omega
    | some c =>
      rw [forwardStuff_cons_reserved h, reservedCount_cons_reserved h]
      simp only [List.length_cons, ih]
      omega

/-- Of the reserved bytes, the output of ForwardStuff holds 7D alone (R111). -/
theorem eq_escByte_or_esc_none_of_mem_forwardStuff {b : Byte} {s : List Byte} (hb : b ∈ forwardStuff s) :
    b = escByte ∨ esc b = none := by
  induction s with
  | nil => cases hb
  | cons a s ih =>
    cases h : esc a with
    | none =>
      rw [forwardStuff_cons_plain h] at hb
      obtain rfl | hb := List.mem_cons.1 hb
      · exact .inr h
      · exact ih hb
    | some c =>
      rw [forwardStuff_cons_reserved h] at hb
      obtain rfl | hb := List.mem_cons.1 hb
      · exact .inl rfl
      · obtain rfl | hb := List.mem_cons.1 hb
        · exact .inr (esc_second_byte h)
        · exact ih hb

/-- A reserved byte other than 7D is not in the output of ForwardStuff (R111). -/
theorem notMem_forwardStuff {b c : Byte} (hne : b ≠ escByte) (h : esc b = some c) (s : List Byte) :
    b ∉ forwardStuff s := fun hb => by
  simpa [h, hne] using eq_escByte_or_esc_none_of_mem_forwardStuff hb

theorem stuffedBody_forwardStuff (s : List Byte) : stuffedBody (forwardStuff s) = true := by
  induction s with
  | nil => rfl
  | cons b s ih =>
    cases h : esc b with
    | none => rw [forwardStuff_cons_plain h, stuffedBody_plain h, ih]
    | some c => rw [forwardStuff_cons_reserved h, stuffedBody_pair ((esc_eq_some_iff_unesc b c).1 h), ih]

/-- Settles O3: the equations for one byte, the law of concatenation and the inductions above; the second bytes and the
example are evaluated. -/
theorem forwardStuffEscapesEachByteOnItsOwn : Obligations.ForwardStuffEscapesEachByteOnItsOwn :=
  ⟨rfl, by decide, fun _ _ h => forwardStuff_cons_reserved h [], fun _ h => forwardStuff_cons_plain h [],
    forwardStuff_append, length_forwardStuff,
    fun s => ⟨notMem_forwardStuff (by decide) rfl s, notMem_forwardStuff (by decide) rfl s,
      notMem_forwardStuff (by decide) rfl s⟩,
    stuffedBody_forwardStuff, by decide⟩

end Sys2Proof.Machine
end

/-! Proofs: the payload of a response (R122). -/
section
namespace Sys2Proof.Machine

/-- The slice of R122 does not look at the header and the trailer that it drops. -/
theorem extractPayload_append {h t : List Byte} (hh : h.length = hdr) (ht : t.length = trl) (p : List Byte) :
    extractPayload (h ++ p ++ t) = p := by
  have hl : (h ++ p ++ t).length = hdr + p.length + trl := by simp only [List.length_append, hh, ht]
  rw [extractPayload, if_pos (by omega), List.append_assoc, List.drop_left' hh]
  exact List.take_left' (by simp only [← List.append_assoc, hl]; omega)

/-- A frame of header and trailer alone, or a shorter one, has no payload (R122, D14). -/
theorem extractPayload_eq_nil {f : List Byte} (h : f.length ≤ 7) : extractPayload f = [] := by
  obtain h | h := Nat.lt_or_eq_of_le h
  · exact if_neg (Nat.not_le.2 h)
  · have := length_extractPayload h.ge
    exact List.eq_nil_of_length_eq_zero (by omega)

/-- Settles O10: the slice of a concatenation, the short frames, and N - 7 for each of the three responses. -/
theorem payloadIsTheSliceWithoutHeaderAndTrailer : Obligations.PayloadIsTheSliceWithoutHeaderAndTrailer := by
  refine ⟨fun h p t hh ht => extractPayload_append hh ht p, fun f => extractPayload_eq_nil, fun op r buf hr => ?_,
    by decide⟩
  rw [length_payload hr]
  rcases response_cases hr with ⟨-, rfl⟩ | ⟨-, rfl⟩ | ⟨-, rfl⟩ <;> rfl

end Sys2Proof.Machine
end

/-! Proofs: the Timeout (R153, R204). -/
section
namespace Sys2Proof.Machine

/-- In REQUEST_SENT with an empty queue RxTimeout is enabled (R11) and enters the Timeout (R153). -/
theorem rxTimeout_enabled {s : State} (hp : s.phase = .requestSent) (hq : s.rxq = []) :
    rxTimeout s = .next s.raiseTimeout := by
  simp [rxTimeout, hp, hq]

/-- While the framer waits RKIND is NO_RESULT, so no result register is meaningful (R23, R26). -/
theorem State.Inv.results_cleared_of_requestSent {s : State} (hi : s.Inv) (hp : s.phase = .requestSent) :
    s.meas = Vector.replicate 10 0 ∧ s.str = Vector.replicate 17 0 ∧ s.strlen = 0 ∧ s.vmaj = 0 ∧ s.vmin = 0 ∧
      s.fallback = false := by
  have hk : s.rkind = .noResult := (hi.waiting hp).1
  obtain ⟨hstr, hlen⟩ := hi.strZero (by simp [hk])
  obtain ⟨hmaj, hmin⟩ := hi.versionZero (by simp [hk])
  exact ⟨hi.measZero (by simp [hk]), hstr, hlen, hmaj, hmin, hi.noFallback⟩

/-- Settles O31: the event is enabled and enters the Timeout, whose whole next state is `State.raiseTimeout`; the
invariants clear the result registers of a framer that waits. -/
theorem timeoutDiscardsThePartialResponse : Obligations.TimeoutDiscardsThePartialResponse :=
  fun _ hp hq => ⟨rxTimeout_enabled hp hq, fun hi => hi.results_cleared_of_requestSent hp⟩

end Sys2Proof.Machine
end

/-! Proofs: the decoder and the encoder (30_encoding.md, log entry 8). -/
section
namespace Sys2Proof

open Sys2Proof.Machine

/-- From three bytes on, only the length and then the frame decide (log entry 8). -/
theorem decode_of_three_le {w : List Byte} (h : 3 ≤ w.length) :
    decode w = if w.length = nMeas then .ok (.respMeasurement w)
      else if w.length = nInfo then .ok (.respDeviceInfo w)
      else if w.length = nFw then .ok (.respFirmware w)
      else decodeFrame w := by
  match w, h with
  | _ :: _ :: _ :: _, _ => rfl

/-- Settles O15, row by row: the fixed words are evaluated, and a response is known by its length. -/
theorem decodingAnEncodingGivesTheInstructionBack : Obligations.DecodingAnEncodingGivesTheInstructionBack := by
  intro i h
  cases i with
  | respMeasurement f | respDeviceInfo f | respFirmware f =>
    rw [WellFormed, beq_iff_eq] at h
    rw [encode, decode_of_three_le (by omega)]
    simp [h]
  | _ => rfl

/-- Stuffing reversal that yields no reserved byte has changed nothing (R114). -/
theorem reverseStuffing_eq_self_of_unreserved {r : List Byte} (h : ∀ b ∈ reverseStuffing r, esc b = none) :
    reverseStuffing r = r := by
  induction r using reverseStuffing.induct with
  | case1 => rfl
  | case2 b => rfl
  | case3 c t o hc ih =>
    rw [reverseStuffing_pair hc, List.forall_mem_cons, (esc_eq_some_iff_unesc o c).2 hc] at h
    simp at h
  | case4 c t hc ih =>
    rw [reverseStuffing_keep hc, List.forall_mem_cons, esc_escByte] at h
    simp at h
  | case5 b c t hb ih =>
    rw [reverseStuffing_lone hb, List.forall_mem_cons] at h
    rw [reverseStuffing_lone hb, ih h.2]

/-- A command frame's body without its checksum, and the row it selects (R80, R83). -/
def commandBody : Instr → Option (List Byte)
  | .start => some [0x00, 0x00, 0x02, 0x01, 0x03]
  | .stop => some [0x00, 0x01, 0x00]
  | .readValues => some [0x00, 0x03, 0x00]
  | .readProductType => some [0x00, 0xD0, 0x01, 0x01]
  | .readSerialNumber => some [0x00, 0xD0, 0x01, 0x03]
  | .readFirmwareVersion => some [0x00, 0xD1, 0x00]
  | _ => none

/-- A row with a command body is well formed and is encoded as that body and its checksum, none of which is a reserved
byte, between the markers (R83). -/
theorem encode_of_commandBody {i : Instr} {body : List Byte} (h : commandBody i = some body) :
    WellFormed i = true ∧ encode i = marker :: (body ++ [checksum body]) ++ [marker] ∧
      ∀ b ∈ body ++ [checksum body], esc b = none := by
  cases i <;> cases h <;> exact ⟨rfl, by decide, by decide⟩

/-- The data field of a command is one of the descriptor table's (R80). -/
theorem decodeCommand_ok {c : Byte} {data : List Byte} {i : Instr} (h : decodeCommand c data = .ok i) :
    commandBody i = some (addr :: c :: BitVec.ofNat 8 data.length :: data) := by
  unfold decodeCommand at h
  split_ifs at h with h1 h2 h3 h4 h5 h6 <;> cases h
  · rw [h1.1, h1.2]; rfl
  · rw [h2.1, h2.2]; rfl
  · rw [h3.1, h3.2]; rfl
  · rw [h4.1, h4.2]; rfl
  · rw [h5.1, h5.2]; rfl
  · rw [h6.1, h6.2]; rfl

/-- The decoder of an unstuffed body accepts a row's body and its checksum, nothing else (R70, R74). -/
theorem decodeBody_ok {l : List Byte} {i : Instr} (h : decodeBody l = .ok i) :
    ∃ body, commandBody i = some body ∧ l = body ++ [checksum body] := by
  unfold decodeBody at h
  split at h
  · rename_i a c len rest
    split_ifs at h with ha hl hc
    simp only [not_not] at ha hl hc
    obtain ⟨data, hrest⟩ := List.getLast?_eq_some_iff.1 hc
    have hdata : rest.dropLast = data := by rw [hrest, List.dropLast_concat]
    rw [hdata] at h hrest
    have hlen : len = BitVec.ofNat 8 data.length := by
      rw [hrest, List.length_append, List.length_singleton] at hl
      rw [Nat.add_right_cancel hl]; simp
    refine ⟨_, decodeCommand_ok h, ?_⟩
    rw [hrest, ha, hlen]; rfl
  · cases h

/-- The decoder of command frames accepts the six rows' own frames, nothing else (R83). -/
theorem decodeFrame_ok {w : List Byte} {i : Instr} (h : decodeFrame w = .ok i) :
    WellFormed i = true ∧ w = encode i := by
  cases w with
  | nil => cases h
  | cons b t =>
    simp only [decodeFrame] at h
    split_ifs at h with hb hl
    simp only [not_not] at hb hl
    obtain ⟨r, rfl⟩ := List.getLast?_eq_some_iff.1 hl
    rw [List.dropLast_concat] at h
    obtain ⟨body, hi, hr⟩ := decodeBody_ok h
    obtain ⟨hw, he, hu⟩ := encode_of_commandBody hi
    rw [← hr] at he hu
    rw [reverseStuffing_eq_self_of_unreserved hu] at he
    exact ⟨hw, by rw [he, hb]; rfl⟩

/-- An accepted host code byte is the code of the row it selects (R81). -/
theorem decodeHostCode_ok {b : Byte} {i : Instr} (h : decodeHostCode b = .ok i) :
    WellFormed i = true ∧ ∃ c, hostCode i = some c ∧ b = c.setWidth 8 := by
  unfold decodeHostCode at h
  split_ifs at h with hb
  cases h
  have hrow : ∀ c : BitVec 3, WellFormed (instrOfCode c) = true := by decide
  refine ⟨hrow _, _, hostCode_instrOfCode _, BitVec.eq_of_toNat_eq ?_⟩
  rw [BitVec.toNat_setWidth, BitVec.toNat_setWidth]
  omega

/-- An accepted escape sequence is a row of the escape table (R72). -/
theorem decodeEscape_ok {b c : Byte} {i : Instr} (h : decodeEscape b c = .ok i) :
    WellFormed i = true ∧ [b, c] = encode i := by
  unfold decodeEscape at h
  split_ifs at h with h1 h2 h3 h4 <;> cases h
  · rw [h1.1, h1.2]; exact ⟨rfl, rfl⟩
  · rw [h2.1, h2.2]; exact ⟨rfl, rfl⟩
  · rw [h3.1, h3.2]; exact ⟨rfl, rfl⟩
  · rw [h4.1, h4.2]; exact ⟨rfl, rfl⟩

/-- Settles O16, format by format: host codes and escapes by their tables, responses by their length, and command frames
through the body that stuffing reversal leaves unchanged. -/
theorem acceptedImagesAreExactlyTheTablesWords : Obligations.AcceptedImagesAreExactlyTheTablesWords := by
  intro w i h
  unfold decode at h
  split at h
  · obtain ⟨hw, c, hc, rfl⟩ := decodeHostCode_ok h
    exact ⟨hw, .inr ⟨c, hc, rfl⟩⟩
  · obtain ⟨hw, he⟩ := decodeEscape_ok h
    exact ⟨hw, .inl he⟩
  · split_ifs at h with h47 h24 h14
    · cases h; exact ⟨by simpa [WellFormed] using h47, .inl rfl⟩
    · cases h; exact ⟨by simpa [WellFormed] using h24, .inl rfl⟩
    · cases h; exact ⟨by simpa [WellFormed] using h14, .inl rfl⟩
    · obtain ⟨hw, he⟩ := decodeFrame_ok h
      exact ⟨hw, .inl he⟩

/-- Settles O17: the eight codes are evaluated, and a code's row has that code. -/
theorem hostCodesSelectTheRowsInOrder : Obligations.HostCodesSelectTheRowsInOrder :=
  ⟨rfl, rfl, rfl, rfl, rfl, rfl, rfl, rfl, hostCode_instrOfCode⟩

/-- Settles O18 by evaluation of each word. -/
theorem tableWordsDecodeToTheirRows : Obligations.TableWordsDecodeToTheirRows :=
  ⟨rfl, rfl, rfl, rfl, rfl, rfl⟩

/-- The row of an operation's host code. -/
theorem instrOfCode_of_hostCode {i : Instr} {c : BitVec 3} (h : hostCode i = some c) : i = instrOfCode c := by
  cases i <;> cases h <;> rfl

/-- Settles O19: a row with the code of an operation is that operation's row, and its frame is evaluated. -/
theorem descriptorsBuildTheTablesFrames : Obligations.DescriptorsBuildTheTablesFrames := by
  intro op i h
  rw [instrOfCode_of_hostCode h]
  cases op <;> rfl

end Sys2Proof
end

/-! Proofs: the operations (R155 to R157, R160 to R165) and the machine around them. -/
section
namespace Sys2Proof.Machine

/-- An accepted operation's row leaves the state of R155, its frame written. -/
theorem exec_accepted {i : Instr} {op : Op} {f : List Byte} {s : State} (hi : hostCode i = some op.code)
    (hp : s.phase ≠ .requestSent)
    (hf : buildFrame (descriptor op).cmd (descriptor op).subcommand (descriptor op).args = some f) :
    exec i s = .next (s.issued op (phaseAfter op) f) := by
  obtain ⟨f', hf', hs⟩ := acceptIssue_eq op s
  obtain rfl : f = f' := Option.some.inj (hf.symm.trans hf')
  rw [exec_of_hostCode hi, issue_accepted op hp, hs]

/-- Settles O21: both operations are accepted, and their frames are evaluated. -/
theorem startAndStopCompleteInOneStep : Obligations.StartAndStopCompleteInOneStep :=
  fun _ hp => ⟨exec_accepted rfl hp rfl, exec_accepted rfl hp rfl⟩

/-- Settles O22: the four operations are accepted, and their frames are evaluated. -/
theorem readingOperationsWriteTheirFrameAndWait : Obligations.ReadingOperationsWriteTheirFrameAndWait :=
  fun _ hp => ⟨exec_accepted rfl hp rfl, exec_accepted rfl hp rfl, exec_accepted rfl hp rfl, exec_accepted rfl hp rfl⟩

/-- Settles O23: a row with a host code is an Issue, which REQUEST_SENT refuses. -/
theorem issueDuringAnOperationChangesNothing : Obligations.IssueDuringAnOperationChangesNothing := by
  intro s i c hp hc
  rw [exec_of_hostCode hc, issue_busy c hp, State.refuseIssue]

/-- Settles O24: both rows are Issues of a reserved code. -/
theorem reservedCodesChangeNothingInAnyPhase : Obligations.ReservedCodesChangeNothingInAnyPhase :=
  fun s => ⟨issue_reserved (c := 6) (by decide) s, issue_reserved (c := 7) (by decide) s⟩

/-- What R155 leaves depends on the state before only through what lies outside the framer. -/
theorem State.issued_congr {s t : State} (hl : s.txlog = t.txlog) (he : s.events = t.events)
    (hr : s.refusedIssues = t.refusedIssues) (op : Op) (p : Phase) (f : List Byte) :
    s.issued op p f = t.issued op p f := by
  simp only [State.issued, hl, he, hr]

/-- Settles O25: both states accept the operation, and R155 writes every element of the framer. -/
theorem acceptedOperationForgetsTheOneBefore : Obligations.AcceptedOperationForgetsTheOneBefore := by
  intro s t i op hi hs ht hl he hr
  obtain ⟨f, hf, -⟩ := acceptIssue_eq op s
  exact ⟨_, exec_accepted hi hs hf, by rw [exec_accepted hi ht hf, State.issued_congr hl he hr]⟩

/-- Settles O34: each field of the two states. -/
theorem resetWritesTheResetValuesAndLeavesTheTransport : Obligations.ResetWritesTheResetValuesAndLeavesTheTransport :=
  ⟨fun s => ⟨s.resetFramer, rfl, ⟨rfl, rfl, rfl, rfl, rfl, rfl, rfl, rfl, rfl, rfl⟩, rfl, rfl, rfl, rfl, rfl, rfl⟩,
    ⟨rfl, rfl, rfl, rfl, rfl, rfl, rfl, rfl, rfl, rfl⟩, rfl, rfl⟩

theorem happen_image_ok {w : List Byte} {i : Instr} (h : decode w = .ok i) (s : State) :
    happen (.image w) s = exec i s := by
  simp only [happen, h]

theorem happen_image_error {w : List Byte} {e : DecodeReject} (h : decode w = .error e) (s : State) :
    happen (.image w) s = .refused (.undecodable e) := by
  simp only [happen, h]

theorem decodeTableWord_eq_some_iff {n w : Nat} {i : Instr} :
    decodeTableWord n w = some i ↔ decode (imageOfTable n w) = .ok i := by
  unfold decodeTableWord
  cases decode (imageOfTable n w) <;> simp

/-- Settles O51: the first event is taken from the schedule, and an image is the row it decodes to. -/
theorem stepRunsTheDecodedInstruction : Obligations.StepRunsTheDecodedInstruction :=
  fun _ _ => ⟨fun _ he => step_cons he, fun _ _ he hd => (step_cons he).trans (happen_image_ok hd _),
    fun _ he => step_cons he,
    fun _ _ _ hd => (step_cons rfl).trans (happen_image_ok (decodeTableWord_eq_some_iff.1 hd) _)⟩

theorem step_nil {s : State} (h : s.events = []) : step s = .next s := by
  simp only [step, nextEvent, h]

/-- Settles O52: the empty schedule, and the image the decoder rejects. -/
theorem machineRestsWithoutEventsAndRefusesUnknownImages :
    Obligations.MachineRestsWithoutEventsAndRefusesUnknownImages :=
  fun _ => ⟨step_nil, fun _ _ _ he hd => (step_cons he).trans (happen_image_error hd _)⟩

end Sys2Proof.Machine
end

/-! Proofs: the transport events RxByte and RxTimeout, enabled or not (R11, R152, R153). -/
section
namespace Sys2Proof.Machine

theorem rxByte_enabled {s : State} {b : Byte} {rest : List Byte} (hp : s.phase = .requestSent)
    (hq : s.rxq = b :: rest) : rxByte s = takeByte b rest s := by
  simp only [rxByte, hp, hq]

theorem rxByte_not_enabled {s : State} (h : s.phase ≠ .requestSent ∨ s.rxq = []) :
    rxByte s = .refused .rxByteNotEnabled := by
  unfold rxByte
  split
  · rename_i hp hq
    simp [hp, hq] at h
  · rfl

theorem rxTimeout_not_enabled {s : State} (h : s.phase ≠ .requestSent ∨ s.rxq ≠ []) :
    rxTimeout s = .refused .rxTimeoutNotEnabled := by
  unfold rxTimeout
  split
  · rename_i hp hq
    simp [hp, hq] at h
  · rfl

/-- RxByte has a next state only where it is enabled: a byte is then taken (R152). -/
theorem rxByte_eq_next {s t : State} (h : rxByte s = .next t) :
    s.phase = .requestSent ∧ ∃ b rest, s.rxq = b :: rest ∧ takeByte b rest s = .next t := by
  unfold rxByte at h
  split at h
  · rename_i b rest hp hq
    exact ⟨hp, b, rest, hq, h⟩
  · cases h

/-- RxTimeout has a next state only where it is enabled: the Timeout (R153). -/
theorem rxTimeout_eq_next {s t : State} (h : rxTimeout s = .next t) :
    s.phase = .requestSent ∧ s.rxq = [] ∧ t = s.raiseTimeout := by
  unfold rxTimeout at h
  split at h
  · rename_i hp hq
    cases h
    exact ⟨hp, hq, rfl⟩
  · cases h

/-- A waiting framer that meets the invariants takes the byte at the head of a queue that holds one. -/
theorem rxByte_next_of_inv {s : State} (hi : s.Inv) (hp : s.phase = .requestSent) (hq : s.rxq ≠ []) :
    ∃ t, rxByte s = .next t := by
  obtain ⟨b, rest, hq⟩ := List.exists_cons_of_ne_nil hq
  rw [rxByte_enabled hp hq]
  exact takeByte_next_of_inv hi hp b rest

/-- Settles O32: the guards of both events, phase and queue. -/
theorem transportEventsExistOnlyInRequestSentAndExcludeEachOther :
    Obligations.TransportEventsExistOnlyInRequestSentAndExcludeEachOther :=
  fun _ => ⟨fun hp => ⟨rxByte_not_enabled (.inl hp), rxTimeout_not_enabled (.inl hp)⟩,
    fun hp hq => ⟨rxByte_not_enabled (.inr hq), _, rxTimeout_enabled hp hq⟩,
    fun hi hp hq => ⟨rxTimeout_not_enabled (.inr hq), rxByte_next_of_inv hi hp hq⟩⟩

end Sys2Proof.Machine
end

/-! Proofs: stuffing reversal (R114, R115, R117, R118, R159). -/
section
namespace Sys2Proof.Machine

/-- Rule 115 item 3, the round-trip law. -/
theorem reverseStuffing_forwardStuff (s : List Byte) : reverseStuffing (forwardStuff s) = s := by
  simpa [reverseStuffing] using reverseStuffing_forwardStuff_append s []

/-- Settles O4 by the law of stuffed bytes before raw ones, with no raw byte. -/
theorem reverseStuffingUndoesForwardStuff : Obligations.ReverseStuffingUndoesForwardStuff :=
  reverseStuffing_forwardStuff

/-- Settles O5: neither the 7D nor what follows the pair can complete a sequence begun before it. -/
theorem everyEscapeSequenceIsReversedWhereverItStands : Obligations.EveryEscapeSequenceIsReversedWhereverItStands := by
  intro a c b e h
  have hb : unesc e = some b := (esc_eq_some_iff_unesc b e).1 h
  have hsplit : reverseStuffing (a ++ escByte :: e :: c) = reverseStuffing a ++ reverseStuffing (escByte :: e :: c) :=
    reverseStuffing_append (.inr fun x t hx => by rw [← (List.cons.inj hx).1, unesc_escByte])
  rw [reverseStuffing_pair hb] at hsplit
  simpa [escByte] using hsplit

theorem noEscapeSequence_lone {b : Byte} (h : b ≠ escByte) (t : List Byte) :
    noEscapeSequence (b :: t) = noEscapeSequence t := by
  cases t <;> simp [noEscapeSequence, h]

theorem noEscapeSequence_pair {c o : Byte} (h : unesc c = some o) (t : List Byte) :
    noEscapeSequence (escByte :: c :: t) = false := by
  simp [noEscapeSequence, h]

theorem noEscapeSequence_keep {c : Byte} (h : unesc c = none) (t : List Byte) :
    noEscapeSequence (escByte :: c :: t) = noEscapeSequence (c :: t) := by
  simp [noEscapeSequence, h]

/-- Reversal changes nothing, or shortens and there is an escape sequence (R115 item 2). -/
theorem reverseStuffing_same_or_shorter (r : List Byte) :
    noEscapeSequence r = true ∧ reverseStuffing r = r ∨
      noEscapeSequence r = false ∧ (reverseStuffing r).length < r.length := by
  induction r using reverseStuffing.induct with
  | case1 => exact .inl ⟨rfl, rfl⟩
  | case2 b => exact .inl ⟨rfl, rfl⟩
  | case3 c t o h ih =>
    have : (reverseStuffing t).length ≤ t.length := by
      rcases ih with ⟨-, ih⟩ | ⟨-, ih⟩
      · rw [ih]
      · exact ih.le
    right
    rw [noEscapeSequence_pair h, reverseStuffing_pair h]
    exact ⟨rfl, by simp only [List.length_cons]; omega⟩
  | case4 c t h ih =>
    rw [noEscapeSequence_keep h, reverseStuffing_keep h]
    simpa using ih
  | case5 b c t h ih =>
    rw [noEscapeSequence_lone h, reverseStuffing_lone h]
    simpa using ih

theorem length_reverseStuffing_le (r : List Byte) : (reverseStuffing r).length ≤ r.length := by
  rcases reverseStuffing_same_or_shorter r with ⟨-, h⟩ | ⟨-, h⟩
  · rw [h]
  · exact h.le

/-- Settles O6 from the two outcomes of reversal, of which each excludes the other by the length. -/
theorem reverseStuffingIsNoOpExactlyWithoutEscapes : Obligations.ReverseStuffingIsNoOpExactlyWithoutEscapes := by
  intro r
  rcases reverseStuffing_same_or_shorter r with ⟨hn, h⟩ | ⟨hn, h⟩
  · simp [hn, h]
  · simp [hn, h.le, h.ne]

/-- A table byte after an unpaired last 7D replaces it (R117). -/
theorem reverseStuffing_concat_replace {r : List Byte} {b o : Byte} (hr : endsUnpaired r = true)
    (hb : unesc b = some o) : ∃ l, reverseStuffing r = l ++ [escByte] ∧ reverseStuffing (r ++ [b]) = l ++ [o] := by
  obtain ⟨l, hl, h⟩ := reverseStuffing_append_split hr
  exact ⟨l, hl, h b o [] hb⟩

/-- Any other byte is appended (R117). -/
theorem reverseStuffing_concat_append {r : List Byte} {b : Byte} (h : endsUnpaired r = false ∨ unesc b = none) :
    reverseStuffing (r ++ [b]) = reverseStuffing r ++ [b] :=
  reverseStuffing_append (h.imp_right fun hb _ _ hc => (List.cons.inj hc).1 ▸ hb)

/-- Settles O7: the byte that replaces, and the byte that is appended. -/
theorem oneMoreRawByteReplacesTheLastOrIsAppended : Obligations.OneMoreRawByteReplacesTheLastOrIsAppended := by
  refine fun r b => ⟨fun o hr hb => ?_, reverseStuffing_concat_append⟩
  obtain ⟨l, hl, h⟩ := reverseStuffing_concat_replace hr hb
  rw [hl, h]
  simp [escByte]

/-- Settles O8: without a split the parts are reversed on their own, and a split keeps the 7D that reversal of the whole
replaces. -/
theorem reversalOfPartsFailsExactlyAtASplitEscape : Obligations.ReversalOfPartsFailsExactlyAtASplitEscape := by
  refine fun a b => ⟨fun hne => ?_, ?_⟩
  · by_contra hns
    refine hne (reverseStuffing_append ?_)
    by_cases ha : endsUnpaired a = true
    · exact .inr fun c t hb => by simpa using fun hc => hns ⟨ha, c, t, hb, hc⟩
    · exact .inl (by simpa using ha)
  · rintro ⟨ha, c, t, rfl, hc⟩ heq
    obtain ⟨o, ho⟩ := Option.isSome_iff_exists.1 hc
    obtain ⟨l, hl, hsplit⟩ := reverseStuffing_append_split ha
    have hlone : c ≠ escByte := by rintro rfl; simp [unesc_escByte] at ho
    have hlen := congrArg List.length heq
    rw [hsplit c o t ho, hl, reverseStuffing_lone hlone] at hlen
    simp at hlen

/-- More raw bytes never make the reversal shorter. -/
theorem length_reverseStuffing_le_append (r q : List Byte) :
    (reverseStuffing r).length ≤ (reverseStuffing (r ++ q)).length := by
  by_cases h : endsUnpaired r = false ∨ ∀ c t, q = c :: t → unesc c = none
  · simp [reverseStuffing_append h]
  · simp only [not_or, not_forall, Bool.not_eq_false] at h
    obtain ⟨hr, c, t, rfl, hc⟩ := h
    obtain ⟨o, ho⟩ := Option.ne_none_iff_exists'.1 hc
    obtain ⟨l, hl, hs⟩ := reverseStuffing_append_split hr
    simp [hl, hs c o t ho]

/-- One more raw byte is at most one more logical byte (R117). -/
theorem length_reverseStuffing_concat_le (r : List Byte) (b : Byte) :
    (reverseStuffing (r ++ [b])).length ≤ (reverseStuffing r).length + 1 := by
  by_cases h : endsUnpaired r = false ∨ unesc b = none
  · simp [reverseStuffing_concat_append h]
  · simp only [not_or, Bool.not_eq_false] at h
    obtain ⟨o, ho⟩ := Option.ne_none_iff_exists'.1 h.2
    obtain ⟨l, hl, hs⟩ := reverseStuffing_concat_replace h.1 ho
    simp [hl, hs]

/-- A logical byte stands for at most two raw ones (R72). -/
theorem length_le_two_mul_length_reverseStuffing (r : List Byte) : r.length ≤ 2 * (reverseStuffing r).length := by
  induction r using reverseStuffing.induct with
  | case1 => simp
  | case2 b => simp [reverseStuffing]
  | case3 c t o h ih => rw [reverseStuffing_pair h]; simp only [List.length_cons]; omega
  | case4 c t h ih => rw [reverseStuffing_keep h]; simp only [List.length_cons] at ih ⊢; omega
  | case5 b c t h ih => rw [reverseStuffing_lone h]; simp only [List.length_cons] at ih ⊢; omega

/-- Logical bytes grow by at most one at a time, so a first part that has not yet been `n` long for any shorter first
part is shorter than `n`. -/
theorem length_reverseStuffing_take_lt {q : List Byte} {n j : Nat} (hn : 0 < n)
    (h : ∀ i ≤ j, (reverseStuffing (q.take i)).length ≠ n) : (reverseStuffing (q.take j)).length < n := by
  induction j with
  | zero => simpa [reverseStuffing] using hn
  | succ j ih =>
    have hj := ih fun i hi => h i (by omega)
    have hne := h (j + 1) le_rfl
    by_cases hq : j < q.length
    · rw [List.take_succ_eq_append_getElem hq] at hne ⊢
      have := length_reverseStuffing_concat_le (q.take j) q[j]
      omega
    · rwa [List.take_of_length_le (by omega), ← List.take_of_length_le (l := q) (i := j) (by omega)]

/-- The read of `n` logical bytes that completes after `k` raw bytes (R159). -/
theorem rawBytesFor_eq_some {q : List Byte} {n k : Nat} (hn : 0 < n) (h : rawBytesFor q n = some k) :
    k ≤ q.length ∧ (reverseStuffing (q.take k)).length = n ∧ ∀ j < k, (reverseStuffing (q.take j)).length < n := by
  obtain ⟨hk, hmem, hmin⟩ := List.find?_range_eq_some.1 h
  refine ⟨Nat.lt_succ_iff.1 (List.mem_range.1 hmem), by simpa using hk, fun j hj => ?_⟩
  exact length_reverseStuffing_take_lt hn fun i hi => by simpa using hmin i (by omega)

/-- The read of `n` logical bytes that never completes (R153). -/
theorem rawBytesFor_eq_none {q : List Byte} {n : Nat} (hn : 0 < n) (h : rawBytesFor q n = none) :
    (reverseStuffing q).length < n := by
  have hq := List.find?_range_eq_none.1 h
  rw [← List.take_length (l := q)]
  exact length_reverseStuffing_take_lt hn fun i hi => by simpa using hq i (by omega)

/-- A completed read ends with a byte that is stored: it takes the whole of a first part, one byte short, and one byte
that completes no escape sequence (R152). -/
theorem take_rawBytesFor {q : List Byte} {n k : Nat} (hn : 0 < n) (h : rawBytesFor q n = some k) :
    ∃ r b, q.take k = r ++ [b] ∧ (reverseStuffing r).length + 1 = n ∧ (endsUnpaired r = false ∨ unesc b = none) := by
  obtain ⟨hkq, hlen, hmin⟩ := rawBytesFor_eq_some hn h
  have hk0 : k ≠ 0 := by
    rintro rfl
    simp [reverseStuffing] at hlen
    omega
  obtain ⟨k, rfl⟩ := Nat.exists_eq_succ_of_ne_zero hk0
  have hmin := hmin k (by omega)
  rw [List.take_succ_eq_append_getElem hkq] at hlen ⊢
  have hstep := length_reverseStuffing_concat_le (q.take k) q[k]
  refine ⟨_, _, rfl, by omega, ?_⟩
  by_contra hc
  simp only [not_or, Bool.not_eq_false] at hc
  obtain ⟨o, ho⟩ := Option.ne_none_iff_exists'.1 hc.2
  obtain ⟨l, hl, hs⟩ := reverseStuffing_concat_replace hc.1 ho
  rw [hl, List.length_append] at hmin
  rw [hs, List.length_append] at hlen
  exact hmin.ne hlen

/-- Settles O45: the least such part, and at most two raw bytes for each logical byte but the last. -/
theorem rawBytesTakenAreBetweenNAndTwoNMinusOne : Obligations.RawBytesTakenAreBetweenNAndTwoNMinusOne := by
  intro q n k hn h
  obtain ⟨hkq, hlen, hmin⟩ := rawBytesFor_eq_some hn h
  obtain ⟨r, b, hr, hrn, -⟩ := take_rawBytesFor hn h
  have hk : k = r.length + 1 := by
    have := congrArg List.length hr
    rwa [List.length_take_of_le hkq, List.length_append] at this
  have hle := length_reverseStuffing_le r
  have hge := length_le_two_mul_length_reverseStuffing r
  exact ⟨by omega, by omega, hkq, hlen, hmin⟩

end Sys2Proof.Machine
end

/-! Proofs: frames and their wire form (R112, R113, R71, R75, R79). -/
section
namespace Sys2Proof.Machine

theorem marker_ne_escByte : marker ≠ escByte := by decide

/-- Stuffed bytes between two markers reverse to the bytes between the markers. -/
theorem reverseStuffing_between_markers (s : List Byte) :
    reverseStuffing (marker :: (forwardStuff s ++ [marker])) = marker :: (s ++ [marker]) := by
  rw [reverseStuffing_lone marker_ne_escByte, reverseStuffing_forwardStuff_append]; rfl

/-- Settles O9: BuildFrame is the stuffed body between markers, and stuffing can be reversed. -/
theorem builtFrameHasItsBodyBetweenMarkers : Obligations.BuiltFrameHasItsBodyBetweenMarkers := by
  intro c sub args data body
  refine ⟨fun h => if_neg (Nat.not_le.2 h), fun h => ⟨forwardStuff (body ++ [checksum body]), if_pos h,
    notMem_forwardStuff (by decide) rfl _, ?_, ?_⟩⟩
  · rw [length_forwardStuff]
    simp only [body, List.length_append, List.length_cons, List.length_nil]
    omega
  · simpa [marker] using reverseStuffing_between_markers (body ++ [checksum body])

/-- The wire form but its last byte: the first byte as in `wire`, every other stuffed. -/
def wireInit : List Byte → List Byte
  | [] => []
  | b :: t => (if b = escByte then forwardStuff [b] else [b]) ++ forwardStuff t

theorem forwardStuff_cons (b : Byte) (t : List Byte) : forwardStuff (b :: t) = forwardStuff [b] ++ forwardStuff t :=
  forwardStuff_append [b] t

theorem wireTail_concat (t : List Byte) (b : Byte) : wireTail (t ++ [b]) = forwardStuff t ++ [b] := by
  induction t with
  | nil => rfl
  | cons c t ih =>
    obtain ⟨d, u, hd⟩ : ∃ d u, t ++ [b] = d :: u := List.exists_cons_of_ne_nil (by simp)
    rw [forwardStuff_cons, List.append_assoc, ← ih, List.cons_append, hd]; rfl

/-- From the second byte on the last byte of a response is sent as it is (R75). -/
theorem wire_concat {f : List Byte} (hf : f ≠ []) (b : Byte) : wire (f ++ [b]) = wireInit f ++ [b] := by
  obtain ⟨c, t, rfl⟩ := List.exists_cons_of_ne_nil hf
  rw [List.cons_append, wire, wireTail_concat, wireInit, List.append_assoc]

/-- The wire form but its last byte reverses to the logical bytes but the last, whatever follows. -/
theorem reverseStuffing_wireInit_append {f : List Byte} (hf : f ≠ []) (r : List Byte) :
    reverseStuffing (wireInit f ++ r) = f ++ reverseStuffing r := by
  obtain ⟨b, t, rfl⟩ := List.exists_cons_of_ne_nil hf
  rw [wireInit]
  split_ifs with hb
  · rw [← forwardStuff_cons, reverseStuffing_forwardStuff_append]
  · rw [List.append_assoc, List.singleton_append, reverseStuffing_lone hb, reverseStuffing_forwardStuff_append]; rfl

theorem reverseStuffing_wireInit (f : List Byte) : reverseStuffing (wireInit f) = f := by
  cases f with
  | nil => rfl
  | cons b t => simpa [reverseStuffing] using reverseStuffing_wireInit_append (List.cons_ne_nil b t) []

theorem reverseStuffing_wire (f : List Byte) : reverseStuffing (wire f) = f := by
  match f, List.eq_nil_or_concat' f with
  | _, .inl rfl => rfl
  | _, .inr ⟨[], b, rfl⟩ =>
    by_cases hb : b = escByte
    · subst hb; decide
    · simp [wire, wireTail, hb, reverseStuffing]
  | _, .inr ⟨c :: t, b, rfl⟩ =>
    rw [wire_concat (List.cons_ne_nil c t), reverseStuffing_wireInit_append (List.cons_ne_nil c t)]; rfl

/-- A marker, a body and a marker: the body is stuffed and the markers are not (R71, R75). -/
theorem wire_between_markers (m : List Byte) (b : Byte) :
    wire (marker :: (m ++ [b])) = marker :: (forwardStuff m ++ [b]) := by
  rw [wire, if_neg marker_ne_escByte, wireTail_concat]; rfl

/-- What rule 79 says of a response: its two markers and its LEN. -/
theorem wellFormedResponse_shape {f : List Byte} {n : Nat} (hn : 7 ≤ n) (h : wellFormedResponse f n = true) :
    ∃ m, f = marker :: (m ++ [marker]) ∧ m.length + 2 = n ∧ m[3]? = some (BitVec.ofNat 8 (n - 7)) := by
  simp only [wellFormedResponse, Bool.and_eq_true, beq_iff_eq] at h
  obtain ⟨⟨⟨⟨hlen, hhead⟩, hlast⟩, hbyte⟩, -⟩ := h
  obtain ⟨t, rfl⟩ := List.head?_eq_some_iff.1 hhead
  have ht : t ≠ [] := by rintro rfl; simp at hlen; omega
  obtain ⟨c, u, rfl⟩ := List.exists_cons_of_ne_nil ht
  rw [List.getLast?_cons_cons] at hlast
  obtain ⟨m, hm⟩ := List.getLast?_eq_some_iff.1 hlast
  rw [hm] at hlen hbyte ⊢
  simp only [List.length_cons, List.length_append, List.length_nil] at hlen
  refine ⟨m, rfl, by omega, ?_⟩
  rwa [List.getElem?_cons_succ, List.getElem?_append_left (by omega)] at hbyte

/-- Settles O20: the round trip, each byte of the body at most doubled, and with N = 24 the LEN byte 0x11 escaped. -/
theorem wireFormOfAResponseReversesToItsLogicalBytes : Obligations.WireFormOfAResponseReversesToItsLogicalBytes := by
  refine ⟨reverseStuffing_wire, fun f n hn h => ?_⟩
  obtain ⟨m, rfl, hm, hlen⟩ := wellFormedResponse_shape hn h
  have hslice : ((marker :: (m ++ [marker])).drop 1).take (n - 2) = m := by
    rw [List.drop_one, List.tail_cons, List.take_left' (by omega)]
  have hcount : reservedCount m ≤ m.length := List.countP_le_length
  have hwire : (wire (marker :: (m ++ [marker]))).length = m.length + reservedCount m + 2 := by
    rw [wire_between_markers, List.length_cons, List.length_append, length_forwardStuff]; simp
  refine ⟨by rw [hslice, wire_between_markers]; rfl, by omega, ?_⟩
  rintro rfl
  have hpos : 0 < reservedCount m :=
    List.countP_pos_iff.2 ⟨_, List.mem_of_getElem? hlen, by decide⟩
  omega

end Sys2Proof.Machine
end

/-! Proofs: the payload decoders and the version text (R123 to R126). -/
section
namespace Sys2Proof.Machine

theorem decodeMeasurement_of_length {p : List Byte} (h : p.length = 40) :
    decodeMeasurement p = (#v[measWord p 0, measWord p 1, measWord p 2, measWord p 3, measWord p 4,
      measWord p 5, measWord p 6, measWord p 7, measWord p 8, measWord p 9], false) := by
  simp [decodeMeasurement, fallbackFlag, h]

theorem decodeMeasurement_fallback {p : List Byte} (h : p.length ≠ 40) :
    decodeMeasurement p = (Vector.replicate 10 0, true) := by
  simp [decodeMeasurement, fallbackFlag, h, zeroTuple]

theorem decodeMeasurement_getElem {p : List Byte} (h : p.length = 40) (i : Fin 10) :
    (decodeMeasurement p).1[i] = measWord p i.val := by
  rw [decodeMeasurement_of_length h]
  fin_cases i <;> rfl

theorem toNat_be32 (a b c d : Byte) :
    (be32 a b c d).toNat = a.toNat * 2 ^ 24 + b.toNat * 2 ^ 16 + c.toNat * 2 ^ 8 + d.toNat := by
  rw [be32, BitVec.toNat_ofNat]
  omega

/-- Settles O11: word by word on forty bytes, and the fallback on any other length. -/
theorem measurementIsTenBigEndianWordsOrTheFallback : Obligations.MeasurementIsTenBigEndianWordsOrTheFallback := by
  refine fun p => ⟨fun h => ⟨by rw [decodeMeasurement_of_length h], fun i => ?_⟩, decodeMeasurement_fallback⟩
  have hget (j : Nat) (hj : j < p.length) : p.getD j 0 = p[j] := List.getD_eq_getElem p 0 hj
  rw [decodeMeasurement_getElem h, measWord, toNat_be32, hget, hget, hget, hget]

theorem decodeAscii_of_le {p : List Byte} (h : ∀ b ∈ p, b ≤ 0x7F#8) : decodeAscii p = some p := by
  simpa [decodeAscii] using h

theorem decodeAscii_of_lt {p : List Byte} (h : ∃ b ∈ p, 0x7F#8 < b) : decodeAscii p = none := by
  simpa [decodeAscii] using h

/-- Settles O12: the two outcomes of the decoder. -/
theorem asciiIsThePayloadOrADecodeError : Obligations.AsciiIsThePayloadOrADecodeError :=
  fun _ => ⟨decodeAscii_of_le, decodeAscii_of_lt⟩

/-- A signed byte as two's complement (G5). -/
theorem toInt_byte (b : Byte) : b.toInt = if b.toNat ≤ 127 then (b.toNat : Int) else b.toNat - 256 := by
  rw [BitVec.toInt_eq_toNat_cond]
  split_ifs <;> omega

/-- Settles O13: the first two bytes read as signed, and the length that is refused. -/
theorem firmwareIsTwoSignedBytesOfSeven : Obligations.FirmwareIsTwoSignedBytesOfSeven := by
  refine ⟨fun a b c d e f g => ?_, fun p h => if_neg h⟩
  rw [← toInt_byte a, ← toInt_byte b]; rfl

/-- The ASCII character of a decimal digit (R126). -/
def digitChar (d : Nat) : Byte := BitVec.ofNat 8 (0x30 + d)

theorem toNat_digitChar {d : Nat} (h : d < 10) : (digitChar d).toNat = 0x30 + d := by
  rw [digitChar, BitVec.toNat_ofNat]
  omega

/-- With fuel enough the digits stand before whatever was written. -/
theorem digitsAcc_eq (fuel n : Nat) (acc : List Byte) (h : n < fuel) : digitsAcc fuel n acc = digits n ++ acc := by
  induction fuel using Nat.strong_induction_on generalizing n acc with
  | _ fuel ih =>
    obtain ⟨fuel, rfl⟩ : ∃ m, fuel = m + 1 := Nat.exists_eq_succ_of_ne_zero (by omega)
    simp only [digits, digitsAcc]
    split_ifs with hn
    · rfl
    · rw [ih fuel (by omega) (n / 10) _ (by omega), ih n (by omega) (n / 10) _ (by omega)]
      simp

theorem digits_of_lt {n : Nat} (h : n < 10) : digits n = [digitChar n] := by
  rw [digits, digitsAcc, Nat.div_eq_of_lt h, Nat.mod_eq_of_lt h]; rfl

theorem digits_of_ge {n : Nat} (h : 10 ≤ n) : digits n = digits (n / 10) ++ [digitChar (n % 10)] := by
  rw [← digitsAcc_eq n (n / 10) _ (by omega)]
  simp only [digits, digitsAcc]
  rw [if_neg (by omega)]; rfl

/-- To prove a fact of every number's digits: of one digit, and of one more digit. -/
theorem digits_induction {P : Nat → List Byte → Prop} (one : ∀ n < 10, P n [digitChar n])
    (more : ∀ n l, 10 ≤ n → P (n / 10) l → P n (l ++ [digitChar (n % 10)])) (n : Nat) : P n (digits n) := by
  induction n using Nat.strong_induction_on with
  | _ n ih =>
    obtain h | h := Nat.lt_or_ge n 10
    · rw [digits_of_lt h]; exact one n h
    · rw [digits_of_ge h]; exact more n _ h (ih (n / 10) (by omega))

theorem digits_ne_nil (n : Nat) : digits n ≠ [] :=
  digits_induction (P := fun _ l => l ≠ []) (fun _ _ => List.cons_ne_nil _ _) (fun _ _ _ _ => by simp) n

theorem mem_digits {n : Nat} : ∀ c ∈ digits n, 0x30 ≤ c.toNat ∧ c.toNat ≤ 0x39 := by
  refine digits_induction (P := fun _ l => ∀ c ∈ l, 0x30 ≤ c.toNat ∧ c.toNat ≤ 0x39) (fun n h => ?_)
    (fun n l _ ih => ?_) n
  · simp only [List.forall_mem_singleton, toNat_digitChar h]; omega
  · have hd : n % 10 < 10 := by omega
    simp only [List.forall_mem_append, List.forall_mem_singleton, toNat_digitChar hd]
    exact ⟨ih, by omega⟩

theorem decimalValue_concat (l : List Byte) (c : Byte) :
    decimalValue (l ++ [c]) = 10 * decimalValue l + (c.toNat - 0x30) := by
  simp only [decimalValue, List.foldl_append, List.foldl_cons, List.foldl_nil]

theorem decimalValue_digits (n : Nat) : decimalValue (digits n) = n := by
  refine digits_induction (P := fun n l => decimalValue l = n) (fun n h => ?_) (fun n l _ ih => ?_) n
  · simp [decimalValue, toNat_digitChar h]
  · rw [decimalValue_concat, ih, toNat_digitChar (by omega)]
    omega

theorem head?_digits_ne_zeroChar {n : Nat} (hn : n ≠ 0) : (digits n).head? ≠ some 0x30 := by
  suffices h : ∃ c t, digits n = c :: t ∧ c ≠ 0x30 by
    obtain ⟨c, t, h, hc⟩ := h
    simpa [h] using hc
  refine digits_induction (P := fun n l => n ≠ 0 → ∃ c t, l = c :: t ∧ c ≠ 0x30)
    (fun n h h0 => ⟨_, _, rfl, fun hc => ?_⟩) (fun n l hn ih _ => ?_) n hn
  · have : (digitChar n).toNat = 0x30 := congrArg BitVec.toNat hc
    rw [toNat_digitChar h] at this
    omega
  · obtain ⟨c, t, rfl, hc⟩ := ih (by omega)
    exact ⟨c, _, rfl, hc⟩

theorem length_digits_le {n : Nat} (h : n < 1000) : (digits n).length ≤ 3 := by
  obtain h1 | h1 := Nat.lt_or_ge n 10
  · simp [digits_of_lt h1]
  · obtain h2 | h2 := Nat.lt_or_ge (n / 10) 10
    · simp [digits_of_ge h1, digits_of_lt h2]
    · simp [digits_of_ge h1, digits_of_ge h2, digits_of_lt (show n / 10 / 10 < 10 by omega)]

theorem dec_eq (v : Int) : dec v = (if v < 0 then [0x2D] else []) ++ digits v.natAbs := by
  unfold dec; split_ifs <;> rfl

/-- A character of a number's digits is neither "-" nor "." (R126). -/
theorem ne_of_mem_digits {n : Nat} {b c : Byte} (hb : b ∈ digits n) (hc : c.toNat < 0x30) : b ≠ c := by
  rintro rfl
  have := (mem_digits b hb).1
  omega

theorem dot_notMem_dec (v : Int) : 0x2E ∉ dec v := by
  rw [dec_eq]
  intro h
  rcases List.mem_append.1 h with h | h
  · split_ifs at h <;> simp at h
  · exact ne_of_mem_digits h (by decide) rfl

/-- A negative number's text begins with "-", any other's does not. -/
theorem head?_dec (v : Int) : (dec v).head? = some 0x2D ↔ v < 0 := by
  rw [dec_eq]
  split_ifs with h
  · simp [h]
  · obtain ⟨c, t, hd⟩ := List.exists_cons_of_ne_nil (digits_ne_nil v.natAbs)
    have := ne_of_mem_digits (c := 0x2D) (hd ▸ List.mem_cons_self) (by decide)
    simpa [hd, h] using this

/-- The text of a number determines the number. -/
theorem dec_injective {v w : Int} (h : dec v = dec w) : v = w := by
  have hneg : v < 0 ↔ w < 0 := by rw [← head?_dec v, ← head?_dec w, h]
  rw [dec_eq, dec_eq, if_congr hneg rfl rfl] at h
  have habs : v.natAbs = w.natAbs := by
    rw [← decimalValue_digits v.natAbs, List.append_cancel_left h, decimalValue_digits]
  omega

/-- Neither number's text holds a ".", so the one between them is where it is split. -/
theorem formatVersion_injective {a b c d : Int} (h : formatVersion a b = formatVersion c d) : a = c ∧ b = d := by
  simp only [formatVersion, List.append_assoc, List.singleton_append] at h
  obtain ⟨hac, -, hbd⟩ := (List.append_cons_inj_of_notMem (dot_notMem_dec a) (dot_notMem_dec b)).1 h
  exact ⟨dec_injective hac, dec_injective hbd⟩

/-- A signed byte has one to three digits and perhaps a sign. -/
theorem length_dec_byte (b : BitVec 8) : 1 ≤ (dec b.toInt).length ∧ (dec b.toInt).length ≤ 4 := by
  have hlow := List.length_pos_iff.2 (digits_ne_nil b.toInt.natAbs)
  have hhigh : (digits b.toInt.natAbs).length ≤ 3 := length_digits_le (by rw [toInt_byte]; split_ifs <;> omega)
  rw [dec_eq, List.length_append]
  split_ifs <;> simp <;> omega

/-- Settles O14: digits by induction on the number, the four texts by evaluation, lengths and injectivity number by
number. -/
theorem versionTextDeterminesBothNumbers : Obligations.VersionTextDeterminesBothNumbers := by
  refine ⟨rfl, fun n => ⟨digits_ne_nil n, mem_digits, decimalValue_digits n, head?_digits_ne_zeroChar⟩, fun a b => ?_,
    rfl, rfl, rfl, rfl, fun a b => ?_, fun a b c d h => ?_⟩
  · rw [formatVersion, dec_eq, dec_eq]
  · have ha := length_dec_byte a
    have hb := length_dec_byte b
    simp only [formatVersion, List.length_append, List.length_singleton]
    omega
  · obtain ⟨hac, hbd⟩ := formatVersion_injective h
    exact ⟨BitVec.toInt_inj.1 hac, BitVec.toInt_inj.1 hbd⟩

end Sys2Proof.Machine
end

/-! Proofs: what an event can do, said once (R11). -/
section
namespace Sys2Proof.Machine

theorem deliveredBytes_of_hostCode {i : Instr} {c : BitVec 3} (h : hostCode i = some c) : deliveredBytes i = none := by
  cases i <;> cases h <;> rfl

theorem hostCode_of_deliveredBytes {i : Instr} {bs : List Byte} (h : deliveredBytes i = some bs) :
    hostCode i = none := by
  cases i <;> cases h <;> rfl

/-- An event with a code is that Issue (R155). -/
theorem happen_of_issuedCode {e : Event} {c : BitVec 3} (h : issuedCode e = some c) (s : State) :
    happen e s = issue c s := by
  cases e with
  | issue c' => cases h; exact exec_of_hostCode (hostCode_instrOfCode c) s
  | image w =>
    cases hd : decode w with
    | ok i => rw [happen_image_ok hd, exec_of_hostCode (by simpa [issuedCode, hd] using h)]
    | error e => simp [issuedCode, hd] at h
  | rxByte | rxTimeout | sensorAppend bs | reset => cases h

/-- Everything an event that has a next state can be: an Issue, the image of a response or escape row, a byte taken, the
Timeout, the sensor's append, or Reset. -/
theorem happen_cases {e : Event} {s t : State} (h : happen e s = .next t) :
    (∃ c, issuedCode e = some c ∧ appendedBytes e = [] ∧ e ≠ .rxByte ∧ issue c s = .next t) ∨
    (∃ w, e = .image w ∧ issuedCode e = none ∧ deliver (appendedBytes e) s = .next t) ∨
    (e = .rxByte ∧ s.phase = .requestSent ∧ ∃ b rest, s.rxq = b :: rest ∧ takeByte b rest s = .next t) ∨
    (e = .rxTimeout ∧ s.phase = .requestSent ∧ s.rxq = [] ∧ t = s.raiseTimeout) ∨
    (∃ bs, e = .sensorAppend bs ∧ t = s.sensorAppend bs) ∨
    (e = .reset ∧ t = s.resetFramer) := by
  cases e with
  | issue c => exact .inl ⟨c, rfl, rfl, by simp, (happen_of_issuedCode rfl s).symm.trans h⟩
  | image w =>
    cases hd : decode w with
    | error e => cases (happen_image_error hd s).symm.trans h
    | ok i =>
      rcases hostCode_or_deliveredBytes i with ⟨c, hc⟩ | ⟨bs, hbs⟩
      · have hi : issuedCode (.image w) = some c := by simp [issuedCode, hd, hc]
        exact .inl ⟨c, hi, by simp [appendedBytes, hd, deliveredBytes_of_hostCode hc], by simp,
          (happen_of_issuedCode hi s).symm.trans h⟩
      · have ha : appendedBytes (.image w) = bs := by simp [appendedBytes, hd, hbs]
        rw [happen_image_ok hd, exec_of_deliveredBytes hbs, ← ha] at h
        exact .inr (.inl ⟨w, rfl, by simp [issuedCode, hd, hostCode_of_deliveredBytes hbs], h⟩)
  | rxByte => exact .inr (.inr (.inl ⟨rfl, rxByte_eq_next h⟩))
  | rxTimeout => exact .inr (.inr (.inr (.inl ⟨rfl, rxTimeout_eq_next h⟩)))
  | sensorAppend bs => cases h; exact .inr (.inr (.inr (.inr (.inl ⟨bs, rfl, rfl⟩))))
  | reset => cases h; exact .inr (.inr (.inr (.inr (.inr ⟨rfl, rfl⟩))))

end Sys2Proof.Machine
end

/-! Proofs: the invariants, kept by every operation over the state (R26, R19, R21, R23). -/
section
namespace Sys2Proof.Machine

/-- The cleared values are those of the framer alone. -/
theorem State.Cleared.update_environment {s : State} (hc : s.Cleared) (q l : List Byte) (es : List Event)
    (cs : List (BitVec 3)) : ({ s with rxq := q, txlog := l, events := es, refusedIssues := cs } : State).Cleared :=
  ⟨hc.rkind, hc.fallback, hc.esc, hc.count, hc.rxbuf, hc.meas, hc.str, hc.strlen, hc.vmaj, hc.vmin⟩

/-- The invariants speak of the framer alone: neither of the transport nor of the model's own fields. -/
theorem State.Inv.update_environment {s : State} (hi : s.Inv) (q l : List Byte) (es : List Event)
    (cs : List (BitVec 3)) : ({ s with rxq := q, txlog := l, events := es, refusedIssues := cs } : State).Inv :=
  ⟨hi.waiting, hi.tailZero, hi.pending, hi.timedOut, hi.timedOutClear, hi.complete, hi.noFallback,
    fun h => (hi.idle h).imp_right fun hc => hc.update_environment q l es cs, hi.measZero, hi.strZero,
    hi.strText, hi.versionZero⟩

theorem State.Inv.setRxq {s : State} (hi : s.Inv) (q : List Byte) : (s.setRxq q).Inv :=
  hi.update_environment q s.txlog s.events s.refusedIssues

theorem State.Inv.setEvents {s : State} (hi : s.Inv) (es : List Event) : (s.setEvents es).Inv :=
  hi.update_environment s.rxq s.txlog es s.refusedIssues

theorem State.Inv.sensorAppend {s : State} (hi : s.Inv) (bs : List Byte) : (s.sensorAppend bs).Inv :=
  hi.setRxq (s.rxq ++ bs)

theorem State.Inv.refuseIssue {s : State} (hi : s.Inv) (c : BitVec 3) : (s.refuseIssue c).Inv :=
  hi.update_environment s.rxq s.txlog s.events (s.refusedIssues ++ [c])

/-- The cleared buffer is zero at COUNT 0 and above. -/
theorem drop_zero_replicate : (Vector.replicate 47 (0 : Byte)).toList.drop 0 = List.replicate (47 - 0) 0 := by
  rw [Vector.toList_replicate]; rfl

/-- After an accepted Issue (R155) a reading operation waits and START and STOP are complete. -/
theorem inv_issued (s : State) (op : Op) (f : List Byte) : (s.issued op (phaseAfter op) f).Inv := by
  cases op <;> constructor <;> simp [State.issued, phaseAfter, Op.response, descriptor, completedAs]

theorem inv_resetFramer (s : State) : s.resetFramer.Inv where
  waiting h := by cases h
  tailZero := ⟨Nat.zero_le _, drop_zero_replicate⟩
  pending h := by cases h
  timedOut := ⟨fun h => (by cases h), fun h => (by cases h)⟩
  timedOutClear h := by cases h
  complete h := by cases h
  noFallback := rfl
  idle _ := ⟨rfl, rfl, rfl, rfl, rfl, rfl, rfl, rfl, rfl, rfl, rfl⟩
  measZero _ := rfl
  strZero _ := ⟨rfl, rfl⟩
  strText h := by cases h
  versionZero _ := ⟨rfl, rfl⟩

/-- Settles O55: the reset state is what Reset makes of it. -/
theorem resetStateMeetsTheInvariants : Obligations.ResetStateMeetsTheInvariants := inv_resetFramer State.reset

/-- The Timeout of a waiting framer (R204). -/
theorem State.Inv.raiseTimeout {s : State} (hi : s.Inv) (hp : s.phase = .requestSent) : s.raiseTimeout.Inv where
  waiting h := by cases h
  tailZero := ⟨Nat.zero_le _, drop_zero_replicate⟩
  pending h := by cases h
  timedOut := ⟨fun _ => rfl, fun _ => rfl⟩
  timedOutClear _ := by
    obtain ⟨-, r, hr, -⟩ := hi.waiting hp
    exact ⟨rfl, Option.isSome_iff_exists.2 ⟨r, hr⟩⟩
  complete h := by cases h
  noFallback := hi.noFallback
  idle h := by cases h
  measZero _ := (hi.results_cleared_of_requestSent hp).1
  strZero _ := by
    obtain ⟨-, hstr, hlen, -⟩ := hi.results_cleared_of_requestSent hp
    exact ⟨hstr, hlen⟩
  strText h := by cases h
  versionZero _ := by
    obtain ⟨-, -, -, hmaj, hmin, -⟩ := hi.results_cleared_of_requestSent hp
    exact ⟨hmaj, hmin⟩

/-- A write below `n` leaves the buffer from `n` on. -/
theorem drop_setIfInBounds {n i : Nat} (h : i < n) (buf : Vector Byte 47) (b : Byte) :
    (buf.setIfInBounds i b).toList.drop n = buf.toList.drop n := by
  rw [Vector.toList_setIfInBounds, List.drop_set_of_lt h]

/-- A byte stored at COUNT leaves zeros above it (R19). -/
theorem State.Inv.drop_storeByte {s : State} (hi : s.Inv) (b : Byte) :
    (s.storeByte b).rxbuf.toList.drop (s.count + 1) = List.replicate (47 - (s.count + 1)) 0 := by
  rw [State.storeByte_rxbuf, drop_setIfInBounds (by omega), ← List.drop_drop, hi.tailZero.2, List.drop_replicate,
    Nat.sub_sub]

/-- Before completion a stored byte keeps the framer waiting (R119). -/
theorem State.Inv.storeByte {s : State} {r : Response} (hi : s.Inv) (hp : s.phase = .requestSent)
    (hr : s.op.response = some r) (hc : s.count + 1 < r.n) (b : Byte) : (s.storeByte b).Inv where
  waiting _ := ⟨(hi.waiting hp).1, r, hr, hc⟩
  tailZero := ⟨by have := response_le hr; simp only [State.storeByte_count]; omega, hi.drop_storeByte b⟩
  pending h := by
    have hb : b = 0x7D := by simpa [escAfter, escByte] using h
    have := response_le hr
    refine ⟨hp, Nat.le_add_left _ _, ?_⟩
    rw [State.storeByte_count, Nat.add_sub_cancel, State.storeByte_rxbuf, Vector.toList_setIfInBounds,
      List.getElem?_set_self (by rw [Vector.length_toList]; omega), hb]
  timedOut := hi.timedOut
  timedOutClear h := by cases hp.symm.trans h
  complete h := by cases hp.symm.trans h
  noFallback := hi.noFallback
  idle h := by cases hp.symm.trans h
  measZero := hi.measZero
  strZero := hi.strZero
  strText := hi.strText
  versionZero := hi.versionZero

/-- A byte that replaces the pending 0x7D keeps the framer waiting (R119). -/
theorem State.Inv.replaceLast {s : State} (hi : s.Inv) (hp : s.phase = .requestSent) (h1 : 1 ≤ s.count) (o : Byte) :
    (s.replaceLast o).Inv where
  waiting := hi.waiting
  tailZero := ⟨hi.tailZero.1, by
    rw [State.replaceLast_rxbuf, State.replaceLast_count, drop_setIfInBounds (by omega), hi.tailZero.2]⟩
  pending h := by cases h
  timedOut := hi.timedOut
  timedOutClear h := by cases hp.symm.trans h
  complete h := by cases hp.symm.trans h
  noFallback := hi.noFallback
  idle h := by cases hp.symm.trans h
  measZero := hi.measZero
  strZero := hi.strZero
  strText := hi.strText
  versionZero := hi.versionZero

/-- No completed operation has the result kind TIMEOUT (R26 item 5). -/
theorem ne_timeout_of_completedAs {op : Op} {k : ResultKind} {n : Nat} (h : completedAs op k n) : k ≠ .timeout := by
  rintro rfl
  cases op <;> simp [completedAs] at h

theorem completedAs_of_measurement {op : Op} {n : Nat} (h : op.response = some ⟨47, .measurement⟩) (hn : n = 47) :
    completedAs op .measurement n := by
  rcases response_cases h with ⟨rfl, -⟩ | ⟨-, h⟩ | ⟨-, h⟩
  · exact ⟨rfl, hn⟩
  · cases h
  · cases h

theorem completedAs_of_ascii {op : Op} {k : ResultKind} {n : Nat} (h : op.response = some ⟨24, .ascii⟩)
    (hn : n = 24) (hk : k = .string ∨ k = .decodeError) : completedAs op k n := by
  rcases response_cases h with ⟨-, h⟩ | ⟨rfl | rfl, -⟩ | ⟨-, h⟩
  · cases h
  · exact ⟨hk, hn⟩
  · exact ⟨hk, hn⟩
  · cases h

theorem completedAs_of_firmware {op : Op} {n : Nat} (h : op.response = some ⟨14, .firmware⟩) (hn : n = 14) :
    completedAs op .version n := by
  rcases response_cases h with ⟨-, h⟩ | ⟨-, h⟩ | ⟨rfl, -⟩
  · cases h
  · cases h
  · exact ⟨rfl, hn⟩

/-- What a state in RESPONSE_COMPLETE must hold: the items of R26 that speak of that phase, and the result registers. -/
theorem inv_of_responseComplete {s : State} (hp : s.phase = .responseComplete) (he : s.esc = false)
    (htail : s.count ≤ 47 ∧ s.rxbuf.toList.drop s.count = List.replicate (47 - s.count) 0)
    (hk : completedAs s.op s.rkind s.count) (hf : s.fallback = false)
    (hm : s.rkind ≠ .measurement → s.meas = Vector.replicate 10 0)
    (hs : s.rkind ≠ .string → s.str = Vector.replicate 17 0 ∧ s.strlen = 0)
    (ht : s.rkind = .string → s.strlen = 17 ∧ ∀ b ∈ s.str, b.toNat ≤ 0x7F)
    (hv : s.rkind ≠ .version → s.vmaj = 0 ∧ s.vmin = 0) : s.Inv where
  waiting h := by cases hp.symm.trans h
  tailZero := htail
  pending h := by cases he.symm.trans h
  timedOut := ⟨fun h => (by cases hp.symm.trans h), fun h => (ne_timeout_of_completedAs hk h).elim⟩
  timedOutClear h := by cases hp.symm.trans h
  complete _ := hk
  noFallback := hf
  idle h := by cases hp.symm.trans h
  measZero := hm
  strZero := hs
  strText := ht
  versionZero := hv

/-- A byte file written as a whole holds the bytes written. -/
theorem toList_memWrite_all {n : Nat} {p : List Byte} (h : p.length = n) (file : Vector Byte n) :
    (memWrite file 0 p).toList = p := by
  rw [memWrite_toList p file 0 (by omega), Nat.zero_add, h, List.drop_of_length_le (by simp)]
  simp

/-- Every outcome of DecodePayload ends the operation with the invariants kept (R127). -/
theorem State.Inv.complete_of_decodePayload {s u : State} {r : Response} (hi : s.Inv) (hp : s.phase = .requestSent)
    (hr : s.op.response = some r) (hc : s.count + 1 = r.n) {b : Byte} {p : List Byte} (hpl : p.length = r.n - 7)
    (hu : decodePayload r.kind p (s.storeByte b).clearEsc = .next u) : (u.setPhase .responseComplete).Inv := by
  obtain ⟨hmeas, hstr, hlen, hmaj, hmin, hfb⟩ := hi.results_cleared_of_requestSent hp
  have hle := response_le hr
  have htail : s.count + 1 ≤ 47 ∧
      (s.storeByte b).rxbuf.toList.drop (s.count + 1) = List.replicate (47 - (s.count + 1)) 0 :=
    ⟨by omega, hi.drop_storeByte b⟩
  rcases decodePayload_eq hr p hpl (s.storeByte b).clearEsc with ⟨rfl, hd⟩ | ⟨rfl, ha, hd⟩ | ⟨rfl, -, hd⟩ | ⟨rfl, hd⟩
  · obtain rfl := Host.Outcome.next.inj (hd.symm.trans hu)
    exact inv_of_responseComplete rfl rfl htail (completedAs_of_measurement hr hc) rfl (fun h => (h rfl).elim)
      (fun _ => ⟨hstr, hlen⟩) (fun h => by cases h) (fun _ => ⟨hmaj, hmin⟩)
  · obtain rfl := Host.Outcome.next.inj (hd.symm.trans hu)
    refine inv_of_responseComplete rfl rfl htail (completedAs_of_ascii hr hc (.inl rfl)) hfb (fun _ => hmeas)
      (fun h => (h rfl).elim) (fun _ => ⟨by simp [hpl], fun c hc => ?_⟩) (fun _ => ⟨hmaj, hmin⟩)
    rw [← Vector.mem_toList_iff] at hc
    exact ha c (toList_memWrite_all hpl s.str ▸ hc)
  · obtain rfl := Host.Outcome.next.inj (hd.symm.trans hu)
    exact inv_of_responseComplete rfl rfl htail (completedAs_of_ascii hr hc (.inr rfl)) hfb (fun _ => hmeas)
      (fun _ => ⟨hstr, hlen⟩) (fun h => by cases h) (fun _ => ⟨hmaj, hmin⟩)
  · obtain rfl := Host.Outcome.next.inj (hd.symm.trans hu)
    exact inv_of_responseComplete rfl rfl htail (completedAs_of_firmware hr hc) hfb (fun _ => hmeas)
      (fun _ => ⟨hstr, hlen⟩) (fun h => by cases h) (fun h => (h rfl).elim)

/-- One byte taken (R152). -/
theorem State.Inv.takeByte {s t : State} {b : Byte} {rest : List Byte} (hi : s.Inv) (hp : s.phase = .requestSent)
    (h : takeByte b rest s = .next t) : t.Inv := by
  have hi' := hi.setRxq rest
  obtain ⟨r, hr, -, ⟨o, -, -, h1, rfl⟩ | ⟨-, hc, rfl⟩ | ⟨-, hc, u, hu, rfl⟩⟩ := takeByte_cases h
  · exact hi'.replaceLast hp h1 o
  · exact hi'.storeByte hp hr hc b
  · exact hi'.complete_of_decodePayload hp hr hc (length_payload hr _) hu

/-- All that can be taken (R154). -/
theorem State.Inv.receive {q : List Byte} {s t : State} (hi : s.Inv) (h : receive q s = .next t) : t.Inv := by
  induction q generalizing s with
  | nil => cases h; exact hi.setRxq []
  | cons b q ih =>
    simp only [Machine.receive] at h
    split_ifs at h with hp
    · obtain ⟨u, hu, ht⟩ := andThen_eq_next.1 h
      exact ih (hi.takeByte hp hu) ht
    · cases h; exact hi.setRxq (b :: q)

/-- An Issue, refused or accepted (R155 to R157). -/
theorem State.Inv.issue {c : BitVec 3} {s t : State} (hi : s.Inv) (h : issue c s = .next t) : t.Inv := by
  rcases issue_cases c s with ⟨-, hs⟩ | ⟨-, op, f, -, -, hs⟩ <;> cases hs.symm.trans h
  · exact hi.refuseIssue c
  · exact inv_issued s op f

/-- Every event. -/
theorem State.Inv.happen {e : Event} {s t : State} (hi : s.Inv) (h : happen e s = .next t) : t.Inv := by
  rcases happen_cases h with ⟨c, -, -, -, ht⟩ | ⟨w, -, -, ht⟩ | ⟨-, hp, b, rest, -, ht⟩ | ⟨-, hp, -, rfl⟩ |
    ⟨bs, -, rfl⟩ | ⟨-, rfl⟩
  · exact hi.issue ht
  · exact (hi.sensorAppend _).receive ht
  · exact hi.takeByte hp ht
  · exact hi.raiseTimeout hp
  · exact hi.sensorAppend bs
  · exact inv_resetFramer s

/-- Settles O56: at rest nothing changes, and otherwise the first event happens. -/
theorem everyStepKeepsTheInvariants : Obligations.EveryStepKeepsTheInvariants := by
  intro s t hi h
  cases he : s.events with
  | nil => cases (step_nil he).symm.trans h; exact hi
  | cons e more => exact (hi.setEvents more).happen ((step_cons he).symm.trans h)

end Sys2Proof.Machine
end

/-! Proofs: the response and escape rows as deliveries (R46, R152, R154). -/
section
namespace Sys2Proof.Machine

theorem State.setRxq_of_eq {s : State} {q : List Byte} (h : s.rxq = q) : s.setRxq q = s := by subst h; rfl

theorem State.setEvents_of_eq {s : State} {es : List Event} (h : s.events = es) : s.setEvents es = s := by subst h; rfl

/-- Outside REQUEST_SENT nothing is taken (R252). -/
theorem receive_not_waiting {s : State} (h : s.phase ≠ .requestSent) (q : List Byte) :
    receive q s = .next (s.setRxq q) := by
  cases q with
  | nil => rfl
  | cons b q => exact if_neg h

theorem receive_cons_waiting {s : State} (h : s.phase = .requestSent) (b : Byte) (q : List Byte) :
    receive (b :: q) s = andThen (takeByte b q s) (receive q) := if_pos h

/-- Settles O35: nothing is taken, so the bytes are only appended. -/
theorem deliveredBytesWaitInTheQueueOutsideRequestSent :
    Obligations.DeliveredBytesWaitInTheQueueOutsideRequestSent := by
  intro s i bs hp hbs
  rw [exec_of_deliveredBytes hbs, deliver, receive_not_waiting (by exact hp)]; rfl

/-- Settles O43: the bytes of the second part are queued behind what is left of the first. -/
theorem resultDoesNotDependOnChunking : Obligations.ResultDoesNotDependOnChunking := by
  intro s a b
  have hdeliver (bs : List Byte) (u : State) : deliver bs u = receive (u.rxq ++ bs) u := receive_setRxq _ _ u
  have hrest (u : State) : deliver b u = receive (u.rxq ++ b) (u.setRxq (u.rxq ++ b)) := rfl
  simp only [hdeliver (a ++ b), hdeliver a, funext hrest]
  rw [← List.append_assoc, receive_append (s.rxq ++ a) b s]

/-- What a reception leaves unchanged: the results too, unless it ends the operation (R152). -/
theorem receive_frame {q : List Byte} {s t : State} (h : receive q s = .next t) :
    t.op = s.op ∧ t.txlog = s.txlog ∧ t.events = s.events ∧ t.refusedIssues = s.refusedIssues ∧
      ((t.phase = s.phase ∧ t.rkind = s.rkind ∧ t.fallback = s.fallback ∧ t.meas = s.meas ∧ t.str = s.str ∧
          t.strlen = s.strlen ∧ t.vmaj = s.vmaj ∧ t.vmin = s.vmin) ∨
        (s.phase = .requestSent ∧ t.phase = .responseComplete)) := by
  induction q generalizing s with
  | nil => cases h; simp
  | cons b q ih =>
    by_cases hp : s.phase = .requestSent
    · rw [receive_cons_waiting hp] at h
      obtain ⟨u, hu, ht⟩ := andThen_eq_next.1 h
      obtain ⟨hop, -, hlog, hev, href, hres⟩ := takeByte_frame hu
      obtain ⟨hop', hlog', hev', href', hres'⟩ := ih ht
      refine ⟨hop'.trans hop, hlog'.trans hlog, hev'.trans hev, href'.trans href, ?_⟩
      rcases hres with ⟨hup, hk, hf, hm, hs, hl, hj, hn⟩ | hup
      · simpa only [hup, hk, hf, hm, hs, hl, hj, hn] using hres'
      · rcases hres' with ⟨htp, -⟩ | ⟨hup', -⟩
        · exact .inr ⟨hp, htp.trans hup⟩
        · cases hup.symm.trans hup'
    · rw [receive_not_waiting hp] at h
      cases h; simp

/-- Settles O42 from the frame of a reception. -/
theorem deliveryWritesResultsOnlyWhenItEndsTheOperation :
    Obligations.DeliveryWritesResultsOnlyWhenItEndsTheOperation := by
  intro s t i bs hbs h
  rw [exec_of_deliveredBytes hbs] at h
  obtain ⟨hop, hlog, hev, href, hres⟩ := receive_frame h
  refine ⟨hop, hlog, hev, href, hres.imp_left And.left, fun hp => ?_⟩
  rcases hres with ⟨-, hres⟩ | ⟨hs, ht⟩
  · exact hres
  · cases hs.symm.trans (hp.symm.trans ht)

/-- A run goes on from the next state of its first step. -/
theorem run_of_step {s t : State} (h : step s = .next t) (k : Nat) :
    Host.Core.run core (k + 1) s = Host.Core.run core k t :=
  (run_succ k s).trans (by rw [h]; rfl)

/-- The sensor's append as the first event of a schedule (R46). -/
theorem step_sensorAppend (s : State) (bs : List Byte) (es : List Event) :
    step (s.setEvents (.sensorAppend bs :: es)) = .next ((s.sensorAppend bs).setEvents es) := rfl

/-- One RxByte event of a schedule (R152). -/
theorem step_rxByte {s t : State} {b : Byte} {q : List Byte} (hp : s.phase = .requestSent)
    (h : takeByte b q s = .next t) (es : List Event) :
    step ((s.setRxq (b :: q)).setEvents (.rxByte :: es)) = .next (t.setEvents es) := by
  have htake : takeByte b q (s.setEvents es) = .next (t.setEvents es) := by rw [takeByte_setEvents, h]; rfl
  exact (step_cons (e := .rxByte) (more := es) rfl).trans
    ((rxByte_enabled (s := (s.setRxq (b :: q)).setEvents es) hp rfl).trans htake)

/-- A reception takes some first part of the queue, all of it while the framer still waits, and is as many RxByte events
of a schedule (R152, R154). -/
theorem receive_is_rxByte_events {q : List Byte} {s t : State} (h : receive q s = .next t) :
    ∃ k ≤ q.length, t.rxq = q.drop k ∧ (t.phase = .requestSent → t.rxq = []) ∧ (s.phase ≠ .requestSent → k = 0) ∧
      ∀ more, Host.Core.run core k ((s.setRxq q).setEvents (List.replicate k .rxByte ++ more)) =
        .next (t.setEvents more) := by
  induction q generalizing s with
  | nil => cases h; exact ⟨0, le_rfl, rfl, fun _ => rfl, fun _ => rfl, fun _ => rfl⟩
  | cons b q ih =>
    by_cases hp : s.phase = .requestSent
    · rw [receive_cons_waiting hp] at h
      obtain ⟨u, hu, ht⟩ := andThen_eq_next.1 h
      obtain ⟨-, hq, -⟩ := takeByte_frame hu
      obtain ⟨k, hk, hdrop, hend, -, hrun⟩ := ih ht
      refine ⟨k + 1, Nat.succ_le_succ hk, hdrop, hend, fun hn => (hn hp).elim, fun more => ?_⟩
      have hrun := hrun more
      rw [State.setRxq_of_eq hq] at hrun
      exact (run_of_step (step_rxByte hp hu _) k).trans hrun
    · rw [receive_not_waiting hp] at h
      cases h
      exact ⟨0, Nat.zero_le _, rfl, fun hn => (hp hn).elim, fun _ => rfl, fun _ => rfl⟩

/-- From a state that meets the invariants a reception has a next state. -/
theorem receive_next_of_inv {s : State} (hi : s.Inv) (q : List Byte) : ∃ t, receive q s = .next t := by
  induction q generalizing s with
  | nil => exact ⟨_, rfl⟩
  | cons b q ih =>
    by_cases hp : s.phase = .requestSent
    · obtain ⟨u, hu⟩ := takeByte_next_of_inv hi hp b q
      rw [receive_cons_waiting hp, hu]
      exact ih (hi.takeByte hp hu)
    · exact ⟨_, receive_not_waiting hp _⟩

/-- Settles O41: the append is the schedule's first event, and the reception the RxByte events after it. -/
theorem deliveryIsAnAppendAndThenRxByteEvents : Obligations.DeliveryIsAnAppendAndThenRxByteEvents := by
  intro s i bs hi hbs
  obtain ⟨t, ht⟩ := receive_next_of_inv (hi.sensorAppend bs) (s.rxq ++ bs)
  obtain ⟨k, hk, hdrop, hend, -, hrun⟩ := receive_is_rxByte_events ht
  obtain ⟨-, -, hev, -⟩ := receive_frame ht
  refine ⟨t, k, by rw [exec_of_deliveredBytes hbs]; exact ht, hk, hdrop, hend, ?_⟩
  have hrun := hrun s.events
  rw [State.setEvents_of_eq (es := s.events) hev] at hrun
  exact (run_of_step (step_sensorAppend s bs _) k).trans hrun

end Sys2Proof.Machine
end

/-! Proofs: a step from an invariant state, and what it does to the phase and to the streams (R11, R55, R166). -/
section
namespace Sys2Proof.Machine

theorem issue_next (c : BitVec 3) (s : State) : ∃ t, issue c s = .next t := by
  rcases issue_cases c s with ⟨-, h⟩ | ⟨-, op, f, -, -, h⟩ <;> exact ⟨_, h⟩

/-- Every row of the table has a next state from a state that meets the invariants. -/
theorem exec_next_of_inv {s : State} (hi : s.Inv) (i : Instr) : ∃ t, exec i s = .next t := by
  rcases hostCode_or_deliveredBytes i with ⟨c, hc⟩ | ⟨bs, hbs⟩
  · rw [exec_of_hostCode hc]; exact issue_next c s
  · rw [exec_of_deliveredBytes hbs]; exact receive_next_of_inv (hi.sensorAppend bs) _

/-- Settles O57, event by event. -/
theorem noFaultAndNoOtherStopFromAnInvariantState : Obligations.NoFaultAndNoOtherStopFromAnInvariantState := by
  intro s hi
  cases he : s.events with
  | nil => exact .inl ⟨s, step_nil he⟩
  | cons e more =>
    have hi' := hi.setEvents more
    have hs := step_cons he
    cases e with
    | issue c =>
      obtain ⟨t, ht⟩ := exec_next_of_inv hi' (instrOfCode c)
      exact .inl ⟨t, hs.trans ht⟩
    | image w =>
      cases hd : decode w with
      | ok i =>
        obtain ⟨t, ht⟩ := exec_next_of_inv hi' i
        exact .inl ⟨t, hs.trans ((happen_image_ok hd _).trans ht)⟩
      | error r => exact .inr (.inr (.inr ⟨w, more, r, rfl, hd, hs.trans (happen_image_error hd _)⟩))
    | rxByte =>
      by_cases h : s.phase ≠ .requestSent ∨ s.rxq = []
      · exact .inr (.inl ⟨more, rfl, h, hs.trans (rxByte_not_enabled h)⟩)
      · simp only [not_or, not_not] at h
        obtain ⟨t, ht⟩ := rxByte_next_of_inv hi' h.1 h.2
        exact .inl ⟨t, hs.trans ht⟩
    | rxTimeout =>
      by_cases h : s.phase ≠ .requestSent ∨ s.rxq ≠ []
      · exact .inr (.inr (.inl ⟨more, rfl, h, hs.trans (rxTimeout_not_enabled h)⟩))
      · simp only [not_or, not_not] at h
        exact .inl ⟨_, hs.trans (rxTimeout_enabled (s := s.setEvents more) h.1 h.2)⟩
    | sensorAppend bs => exact .inl ⟨_, hs⟩
    | reset => exact .inl ⟨_, hs⟩

/-- The rows of R166 for an Issue. -/
theorem issue_moves_phase {c : BitVec 3} {s t : State} (h : issue c s = .next t) : IssueMovesPhase c s t := by
  rcases issue_cases c s with ⟨hr, hs⟩ | ⟨hp, op, f, rfl, -, hs⟩ <;> cases hs.symm.trans h
  · refine ⟨fun _ => rfl, fun hp hc => ?_, fun hp _ hc => ?_⟩ <;> rcases hr with hr | hr
    · exact (hp hr).elim
    · omega
    · exact (hp hr).elim
    · omega
  · have hcode : ∀ op : Op, op.code.toNat < 6 ∧ (op.code.toNat < 2 → phaseAfter op = .responseComplete) ∧
        (2 ≤ op.code.toNat → phaseAfter op = .requestSent) := by
      intro op; cases op <;> decide
    obtain ⟨h6, hcomplete, hwait⟩ := hcode op
    exact ⟨fun hr => (Nat.not_le_of_lt h6 (hr.resolve_left hp)).elim, fun _ => hcomplete, fun _ h2 _ => hwait h2⟩

/-- The rows of R166 for RxByte. -/
theorem takeByte_moves_phase {b : Byte} {rest : List Byte} {s t : State} (hp : s.phase = .requestSent)
    (h : takeByte b rest s = .next t) : ∃ r, s.op.response = some r ∧
      (t.phase = .requestSent ∧ t.count < r.n ∨ t.phase = .responseComplete ∧ t.count = r.n) := by
  obtain ⟨r, hr, hlt, ⟨o, -, -, -, rfl⟩ | ⟨-, hc, rfl⟩ | ⟨-, hc, u, hu, rfl⟩⟩ := takeByte_cases h
  · exact ⟨r, hr, .inl ⟨hp, hlt⟩⟩
  · exact ⟨r, hr, .inl ⟨hp, hc⟩⟩
  · obtain ⟨-, -, hcount, -⟩ := decodePayload_frame hu
    exact ⟨r, hr, .inr ⟨rfl, hcount.trans hc⟩⟩

/-- Settles O53, event by event. -/
theorem phaseMovesOnlyAlongTheTable : Obligations.PhaseMovesOnlyAlongTheTable := by
  intro s t e more _ he h
  rw [step_cons he] at h
  refine ⟨fun c hc => ?_, ?_, ?_, ?_, ?_, ?_⟩
  · exact issue_moves_phase (s := s.setEvents more) ((happen_of_issuedCode hc _).symm.trans h)
  · rintro rfl
    obtain ⟨hp, b, rest, -, ht⟩ := rxByte_eq_next h
    exact ⟨hp, takeByte_moves_phase (s := s.setEvents more) hp ht⟩
  · rintro rfl
    obtain ⟨hp, hq, rfl⟩ := rxTimeout_eq_next h
    exact ⟨hp, hq, rfl⟩
  · rintro bs rfl
    cases h; rfl
  · rintro rfl
    cases h; rfl
  · rintro w i bs rfl hd hbs
    rw [happen_image_ok hd, exec_of_deliveredBytes hbs] at h
    obtain ⟨-, -, -, -, hres⟩ := receive_frame h
    exact hres.imp_left And.left

/-- An Issue that is refused leaves both streams (R156, R157). -/
theorem issue_refused_streams {c : BitVec 3} {s t : State} (hr : s.phase = .requestSent ∨ ∀ op : Op, c ≠ op.code)
    (h : issue c s = .next t) : t.txlog = s.txlog ∧ t.rxq = s.rxq := by
  rcases issue_cases c s with ⟨-, hs⟩ | ⟨hp, op, f, hc, -, hs⟩
  · cases hs.symm.trans h; exact ⟨rfl, rfl⟩
  · exact (hr.elim hp fun hr => hr op hc).elim

/-- What an event that is no accepted Issue may do to the streams (R45, R48, R55): the log stays, the event's bytes are
appended to T.rxq, and `k` bytes are taken from its head. -/
def KeepsStreams (e : Event) (s t : State) : Prop :=
  t.txlog = s.txlog ∧ ∃ k, k ≤ (s.rxq ++ appendedBytes e).length ∧ t.rxq = (s.rxq ++ appendedBytes e).drop k ∧
    (e = .rxByte → k = 1) ∧ (s.phase ≠ .requestSent → k = 0) ∧
    (e ≠ .rxByte → (∀ w, e ≠ .image w) → k = 0) ∧ (∀ c, issuedCode e = some c → k = 0)

/-- An event that takes no byte. -/
theorem keepsStreams_of_append {e : Event} {s t : State} (hne : e ≠ .rxByte) (hlog : t.txlog = s.txlog)
    (hq : t.rxq = s.rxq ++ appendedBytes e) : KeepsStreams e s t :=
  ⟨hlog, 0, Nat.zero_le _, hq, fun h => (hne h).elim, fun _ => rfl, fun _ _ => rfl, fun _ _ => rfl⟩

/-- Settles O54: an accepted Issue by R155, and every other event by what it can be. -/
theorem transportStreamsKeepTheirDiscipline : Obligations.TransportStreamsKeepTheirDiscipline := by
  intro s t e more he h
  rw [step_cons he] at h
  refine ⟨fun op hp hc => ?_, fun hr => ?_⟩
  · obtain ⟨f, hf, hs⟩ := acceptIssue_eq op (s.setEvents more)
    rw [happen_of_issuedCode hc, issue_accepted (s := s.setEvents more) op hp, hs] at h
    cases h
    exact ⟨f, hf, rfl, rfl⟩
  · rcases happen_cases h with ⟨c, hc, ha, hne, ht⟩ | ⟨w, rfl, hc, ht⟩ | ⟨rfl, hp, b, rest, hq, ht⟩ | ⟨rfl, -, -, rfl⟩ |
      ⟨bs, rfl, rfl⟩ | ⟨rfl, rfl⟩
    · obtain ⟨hlog, hq⟩ := issue_refused_streams (s := s.setEvents more)
        (hr.imp_right fun hr op hop => hr op (hop ▸ hc)) ht
      exact keepsStreams_of_append hne hlog (by rw [ha, List.append_nil]; exact hq)
    · obtain ⟨-, hlog, -⟩ := receive_frame ht
      obtain ⟨k, hk, hq, -, hk0, -⟩ := receive_is_rxByte_events ht
      exact ⟨hlog, k, hk, hq, fun h => (by cases h), hk0, fun _ hw => (hw w rfl).elim,
        fun c h => (by cases hc.symm.trans h)⟩
    · obtain ⟨-, hrest, hlog, -⟩ := takeByte_frame ht
      have hq : s.rxq = b :: rest := hq
      refine ⟨hlog, 1, ?_, ?_, fun _ => rfl, fun hn => (hn hp).elim, fun hn => (hn rfl).elim, fun c h => (by cases h)⟩
      · simp [hq]
      · simp [hq, hrest, appendedBytes]
    · exact keepsStreams_of_append (by simp) rfl (List.append_nil _).symm
    · exact keepsStreams_of_append (by simp) rfl rfl
    · exact keepsStreams_of_append (by simp) rfl (List.append_nil _).symm

end Sys2Proof.Machine
end

/-! Proofs: what the host sees (R168, R171). -/
section
namespace Sys2Proof.Machine

/-- A terminal state is a completed operation of R26 item 5 or a Timeout of a reading operation (R202). -/
theorem State.Inv.terminal {s : State} (hi : s.Inv) (hd : done s = true) :
    s.phase = .responseComplete ∧ completedAs s.op s.rkind s.count ∨
      s.phase = .timedOut ∧ s.rkind = .timeout ∧ s.op.response.isSome = true := by
  have hp : s.phase = .responseComplete ∨ s.phase = .timedOut := by simpa [done] using hd
  rcases hp with hp | hp
  · exact .inl ⟨hp, hi.complete hp⟩
  · exact .inr ⟨hp, hi.timedOut.1 hp, (hi.timedOutClear hp).2⟩

/-- Settles O58, operation by operation: its completions, and for a reading operation its Timeout. -/
theorem callerGetsExactlyTheResultsOfItsOperation : Obligations.CallerGetsExactlyTheResultsOfItsOperation := by
  intro s hi hd
  have hf := hi.noFallback
  rcases hi.terminal hd with ⟨-, hk⟩ | ⟨-, hk, hr⟩
  · cases hop : s.op <;> simp only [hop, completedAs] at hk
    case start | stop => simp [apiResult, hd, hop, hk]
    case readValues => simp [apiResult, hd, hop, hk, hf]
    case readProductType | readSerialNumber =>
      rcases hk.1 with hk | hk
      · simp [apiResult, hd, hop, hk, (hi.strText hk).1]
      · simp [apiResult, hd, hop, hk]
    case readFirmwareVersion => simp [apiResult, hd, hop, hk]
  · cases hop : s.op
    case start | stop => simp [hop, Op.response, descriptor] at hr
    all_goals simp [apiResult, hd, hop, hk]

/-- The code of RKIND determines it (R15). -/
theorem hostRead_rkind_eq_iff (s : State) (k : ResultKind) : hostRead .rkind s = k.code.toNat ↔ s.rkind = k := by
  have hinj : ∀ j k : ResultKind, (j.code.toNat : Int) = k.code.toNat ↔ j = k := by
    intro j k; cases j <;> cases k <;> decide
  exact hinj s.rkind k

/-- Settles O59: the cleared registers of the invariants, RKIND read by its code. -/
theorem registersNotMeaningfulReadZero : Obligations.RegistersNotMeaningfulReadZero := by
  intro s hi
  refine ⟨?_, fun hk i => ?_, fun hk => ⟨fun i => ?_, ?_⟩, fun hk => ⟨?_, ?_⟩⟩
  · simp [hostRead, hi.noFallback]
  · have hk := (hostRead_rkind_eq_iff s .measurement).not.1 hk
    simp [hostRead, hi.measZero hk]
  · have hk := (hostRead_rkind_eq_iff s .string).not.1 hk
    simp [hostRead, (hi.strZero hk).1]
  · have hk := (hostRead_rkind_eq_iff s .string).not.1 hk
    simp [hostRead, (hi.strZero hk).2]
  · have hk := (hostRead_rkind_eq_iff s .version).not.1 hk
    simp [hostRead, (hi.versionZero hk).1]
  · have hk := (hostRead_rkind_eq_iff s .version).not.1 hk
    simp [hostRead, (hi.versionZero hk).2]

/-- Settles O60: each register by its own row, and a string's characters by the invariants. -/
theorem hostReadsShowTheRegistersInTheirCodes : Obligations.HostReadsShowTheRegistersInTheirCodes := by
  intro s
  refine ⟨?_, ?_, ?_, ?_, fun _ => rfl, fun _ => rfl, rfl, toInt_byte s.vmaj, toInt_byte s.vmin, fun hi hk => ?_⟩
  · cases h : s.op <;> simp [hostRead, h, Op.code]
  · cases h : s.phase <;> simp [hostRead, h, Phase.code]
  · cases h : s.rkind <;> simp [hostRead, h, ResultKind.code]
  · cases h : s.fallback <;> simp [hostRead, h]
  · obtain ⟨hlen, hchars⟩ := hi.strText ((hostRead_rkind_eq_iff s .string).1 hk)
    refine ⟨by simp [hostRead, hlen], fun i => ?_⟩
    have := hchars s.str[i] (Vector.getElem_mem i.isLt)
    simp only [hostRead]
    omega

end Sys2Proof.Machine
end

/-! Proofs: one RxByte, stored, replacing or completing (R119, R127, R152). -/
section
namespace Sys2Proof.Machine

theorem happen_rxByte {s : State} {b : Byte} {rest : List Byte} (hp : s.phase = .requestSent) (hq : s.rxq = b :: rest) :
    happen .rxByte s = takeByte b rest s := rxByte_enabled hp hq

/-- Settles O26: the pending 7D is replaced, which never completes. -/
theorem tableByteAfterPendingEscapeReplacesIt : Obligations.TableByteAfterPendingEscapeReplacesIt := by
  intro s n k b o rest hw hc h1 he hb hq
  rw [happen_rxByte hw.1 hq, takeByte_replace hw.2 hc he hb h1]; rfl

/-- Settles O27: before completion the byte is only stored. -/
theorem otherByteIsStoredAndCounted : Obligations.OtherByteIsStoredAndCounted := by
  intro s n k b rest hw hc he hq
  rw [happen_rxByte hw.1 hq, takeByte_store hw.2 hc he]; rfl

/-- The end of R152 for a framer that holds all N logical bytes: ESC is cleared, the payload of RXBUF is decoded,
and the operation is complete. -/
def State.finish (r : Response) (s : State) : StepResult :=
  andThen (decodePayload r.kind (extractPayload (memRead s.rxbuf 0 r.n)) s.clearEsc)
    (fun t => .next (t.setPhase .responseComplete))

/-- The byte that brings COUNT to N is stored and ends the operation (R152). -/
theorem takeByte_finish {b : Byte} {rest : List Byte} {s : State} {r : Response} (hr : s.op.response = some r)
    (hc : s.count + 1 = r.n) (he : s.esc = false ∨ unesc b = none) :
    takeByte b rest s = ((s.setRxq rest).storeByte b).finish r := takeByte_complete hr hc he

/-- What the end of an operation leaves of the state before it. -/
theorem State.finish_frame {s t : State} {r : Response} (h : s.finish r = .next t) :
    t.phase = .responseComplete ∧ t.op = s.op ∧ t.esc = false ∧ t.count = s.count ∧ t.rxbuf = s.rxbuf ∧ t.rxq = s.rxq ∧
      t.txlog = s.txlog ∧ t.events = s.events ∧ t.refusedIssues = s.refusedIssues := by
  obtain ⟨u, hu, ht⟩ := andThen_eq_next.1 h
  cases ht
  exact ⟨rfl, decodePayload_frame hu⟩

/-- The payload of RXBUF, byte by byte (R122). -/
theorem payload_eq_ofFn {n : Nat} (h7 : 7 ≤ n) (h47 : n ≤ 47) (buf : Vector Byte 47) :
    extractPayload (memRead buf 0 n) = List.ofFn (fun j : Fin (n - 7) => buf[5 + j.val]) := by
  have hl := length_memRead (a := 0) (n := n) buf (by omega)
  have hslice : extractPayload (memRead buf 0 n) = ((memRead buf 0 n).drop 5).take (n - 7) := by
    rw [extractPayload, hl, if_pos (show hdr + trl ≤ n from h7), Nat.sub_sub]; rfl
  rw [hslice]
  exact List.ext_getElem (by simp [hl]; omega) fun j _ _ => by simp [memRead]

/-- The payload's byte at an index that is not past its end. -/
theorem payload_getD {n j : Nat} (h47 : n ≤ 47) (hj : j < n - 7) (buf : Vector Byte 47) :
    (extractPayload (memRead buf 0 n)).getD j 0 = buf[5 + j] := by
  rw [payload_eq_ofFn (by omega) h47, List.getD_eq_getElem _ _ (by simpa using hj), List.getElem_ofFn]

/-- MEASUREMENT: the ten words of the buffer, no fallback (R123, R127). -/
theorem State.finish_measurement (s : State) :
    ∃ m : Vector Word 10,
      s.finish ⟨47, .measurement⟩ = .next { s with
        esc := false, meas := m, fallback := false, rkind := .measurement, phase := .responseComplete } ∧
      ∀ i : Fin 10, m[i] = be32 (s.rxbuf[5 + 4 * i.val]'(by omega)) (s.rxbuf[6 + 4 * i.val]'(by omega))
        (s.rxbuf[7 + 4 * i.val]'(by omega)) (s.rxbuf[8 + 4 * i.val]'(by omega)) := by
  have hlen : (extractPayload (memRead s.rxbuf 0 47)).length = 40 := length_payload (op := .readValues) rfl s.rxbuf
  refine ⟨(decodeMeasurement (extractPayload (memRead s.rxbuf 0 47))).1, ?_, fun i => ?_⟩
  · have hfb : (decodeMeasurement (extractPayload (memRead s.rxbuf 0 47))).2 = false := by
      rw [decodeMeasurement_of_length hlen]
    rw [State.finish, decodePayload, hfb]; rfl
  · rw [decodeMeasurement_getElem hlen, measWord, payload_getD (by omega) (by omega),
      payload_getD (by omega) (by omega), payload_getD (by omega) (by omega), payload_getD (by omega) (by omega)]
    congr 2 <;> omega

/-- STRING: seventeen ASCII characters of the buffer (R124, R127). -/
theorem State.finish_string {s : State} (h : ∀ k : Fin 17, (s.rxbuf[5 + k.val]'(by omega)).toNat ≤ 127) :
    s.finish ⟨24, .ascii⟩ = .next { s with
      esc := false, phase := .responseComplete
      str := Vector.ofFn (fun k : Fin 17 => s.rxbuf[5 + k.val]'(by omega)), strlen := 17, rkind := .string } := by
  have hp : extractPayload (memRead s.rxbuf 0 24) = List.ofFn (fun k : Fin 17 => s.rxbuf[5 + k.val]) :=
    payload_eq_ofFn (n := 24) (by omega) (by omega) s.rxbuf
  have hascii := decodeAscii_of_le (p := extractPayload (memRead s.rxbuf 0 24))
    (by rw [hp]; exact List.forall_mem_ofFn_iff.2 h)
  have hstr : memWrite s.str 0 (extractPayload (memRead s.rxbuf 0 24)) =
      Vector.ofFn (fun k : Fin 17 => s.rxbuf[5 + k.val]) := by
    rw [← Vector.toList_inj, toList_memWrite_all (by rw [hp, List.length_ofFn]), hp, Vector.toList_ofFn]
  have hlen : (extractPayload (memRead s.rxbuf 0 24)).length = 17 := by rw [hp, List.length_ofFn]
  simp only [State.finish, decodePayload, hascii, hlen]
  rw [if_pos le_rfl, andThen_next]
  simp only [State.putString, hlen, State.clearEsc, State.setPhase, hstr]; rfl

/-- DECODE_ERROR: a character that is not ASCII, and no register but RKIND is written (R205). -/
theorem State.finish_decodeError {s : State} (h : ∃ k : Fin 17, 128 ≤ (s.rxbuf[5 + k.val]'(by omega)).toNat) :
    s.finish ⟨24, .ascii⟩ = .next { s with esc := false, phase := .responseComplete, rkind := .decodeError } := by
  have hascii : decodeAscii (extractPayload (memRead s.rxbuf 0 24)) = none := by
    obtain ⟨k, hk⟩ := h
    rw [payload_eq_ofFn (by omega) (by omega)]
    exact decodeAscii_of_lt ⟨_, List.mem_ofFn.2 ⟨k, rfl⟩, hk⟩
  simp only [State.finish, decodePayload, hascii]; rfl

/-- VERSION: two signed bytes of the buffer, kept as their bits (R125, R127). -/
theorem State.finish_version (s : State) :
    s.finish ⟨14, .firmware⟩ = .next { s with
      esc := false, vmaj := s.rxbuf[5], vmin := s.rxbuf[6], rkind := .version, phase := .responseComplete } := by
  have hlen : (extractPayload (memRead s.rxbuf 0 14)).length = 7 :=
    length_payload (op := .readFirmwareVersion) rfl s.rxbuf
  have h0 := payload_getD (n := 14) (j := 0) (by omega) (by omega) s.rxbuf
  have h1 := payload_getD (n := 14) (j := 1) (by omega) (by omega) s.rxbuf
  have hv : decodeFirmware (extractPayload (memRead s.rxbuf 0 14)) = some (sext8 s.rxbuf[5], sext8 s.rxbuf[6]) := by
    rw [decodeFirmware, if_pos hlen, h0, h1]
  simp only [State.finish, decodePayload, hv, State.putVersion, sext8, BitVec.ofInt_toInt]; rfl

/-- For each response the operation ends in a next state. -/
theorem State.finish_next {op : Op} {r : Response} (hr : op.response = some r) (s : State) :
    ∃ t, s.finish r = .next t := by
  rcases response_cases hr with ⟨-, rfl⟩ | ⟨-, rfl⟩ | ⟨-, rfl⟩
  · obtain ⟨m, hm, -⟩ := s.finish_measurement
    exact ⟨_, hm⟩
  · by_cases h : ∀ k : Fin 17, (s.rxbuf[5 + k.val]'(by omega)).toNat ≤ 127
    · exact ⟨_, State.finish_string h⟩
    · simp only [not_forall, Nat.not_le] at h
      exact ⟨_, State.finish_decodeError h⟩
  · exact ⟨_, s.finish_version⟩

/-- A byte stored past an index leaves the byte at the index. -/
theorem getElem_setIfInBounds_of_lt {i j : Nat} (h : j < i) (hj : j < 47) (buf : Vector Byte 47) (b : Byte) :
    (buf.setIfInBounds i b)[j] = buf[j] := by
  rw [Vector.getElem_setIfInBounds, if_neg (by omega)]

/-- Settles O28: the end of the operation, whose payload lies below the byte just stored. -/
theorem lastByteCompletesReadValues : Obligations.LastByteCompletesReadValues := by
  intro s b rest hp hop hc he hq
  have hr : s.op.response = some ⟨47, .measurement⟩ := by rw [hop]; rfl
  obtain ⟨m, hm, hwords⟩ := ((s.setRxq rest).storeByte b).finish_measurement
  refine ⟨m, ?_, fun i => ?_⟩
  · rw [happen_rxByte hp hq, takeByte_finish hr (by rw [hc]) he, hm]
    simp only [State.storeByte, State.setRxq, hc]
  · rw [hwords i]
    simp only [State.storeByte_rxbuf, State.setRxq_rxbuf, State.setRxq_count, hc]
    rw [getElem_setIfInBounds_of_lt (by omega), getElem_setIfInBounds_of_lt (by omega),
      getElem_setIfInBounds_of_lt (by omega), getElem_setIfInBounds_of_lt (by omega)]

/-- Settles O29: the end of the operation in its two outcomes. -/
theorem lastByteCompletesAnIdentificationRead : Obligations.LastByteCompletesAnIdentificationRead := by
  intro s b rest hp hop hc he hq
  have hr : s.op.response = some ⟨24, .ascii⟩ := by rcases hop with hop | hop <;> rw [hop] <;> rfl
  have hget (k : Fin 17) : ((s.setRxq rest).storeByte b).rxbuf[5 + k.val] = s.rxbuf[5 + k.val] := by
    simp only [State.storeByte_rxbuf, State.setRxq_rxbuf, State.setRxq_count, hc]
    exact getElem_setIfInBounds_of_lt (by omega) _ _ _
  have hstep : happen .rxByte s = ((s.setRxq rest).storeByte b).finish ⟨24, .ascii⟩ := by
    rw [happen_rxByte hp hq, takeByte_finish hr (by rw [hc]) he]
  refine ⟨fun h => ?_, fun ⟨k, hk⟩ => ?_⟩
  · rw [hstep, State.finish_string fun k => by rw [hget]; exact h k]
    simp only [hget]
    simp only [State.storeByte, State.setRxq, hc]
  · rw [hstep, State.finish_decodeError ⟨k, by rw [hget]; exact hk⟩]
    simp only [State.storeByte, State.setRxq, hc]

/-- Settles O30: the end of the operation, VMAJ and VMIN below the byte just stored. -/
theorem lastByteCompletesReadFirmwareVersion : Obligations.LastByteCompletesReadFirmwareVersion := by
  intro s b rest hp hop hc he hq
  have hr : s.op.response = some ⟨14, .firmware⟩ := by rw [hop]; rfl
  rw [happen_rxByte hp hq, takeByte_finish hr (by rw [hc]) he, State.finish_version]
  simp only [State.storeByte, State.setRxq, hc]
  rw [getElem_setIfInBounds_of_lt (by omega), getElem_setIfInBounds_of_lt (by omega)]

end Sys2Proof.Machine
end

/-! Proofs: the escape rows (R72, R119). -/
section
namespace Sys2Proof.Machine

/-- Where two bytes or more are missing, the 7D of an escape row is stored and its second byte replaces it (R119). -/
theorem deliver_escape {s : State} {n : Nat} {k : Kind} {c o : Byte} (hw : s.Waits n k) (hc : s.count + 1 < n)
    (hq : s.rxq = []) (ho : unesc c = some o) :
    deliver [escByte, c] s = .next { s with
      rxbuf := s.rxbuf.setIfInBounds s.count o, count := s.count + 1, esc := false } := by
  have hstore : takeByte escByte [c] s = .next ((s.setRxq [c]).storeByte escByte) :=
    takeByte_store hw.2 hc (.inr unesc_escByte)
  have hreplace : takeByte c [] ((s.setRxq [c]).storeByte escByte) =
      .next ((((s.setRxq [c]).storeByte escByte).setRxq []).replaceLast o) :=
    takeByte_replace (r := ⟨n, k⟩) hw.2 hc rfl ho (Nat.le_add_left _ _)
  rw [deliver, State.sensorAppend, receive_setRxq, hq, List.nil_append, receive_cons_waiting hw.1, hstore, andThen_next,
    receive_cons_waiting (s := (s.setRxq [c]).storeByte escByte) hw.1, hreplace, andThen_next, receive]
  simp only [State.setRxq, State.storeByte, State.replaceLast, Nat.add_sub_cancel, Vector.setIfInBounds_setIfInBounds]

/-- Settles O36: the same two bytes taken, for each row of the table. -/
theorem escapeRowStoresItsOriginalByte : Obligations.EscapeRowStoresItsOriginalByte :=
  fun _ _ _ hw hc hq => ⟨deliver_escape hw hc hq rfl, deliver_escape hw hc hq rfl, deliver_escape hw hc hq rfl,
    deliver_escape hw hc hq rfl⟩

/-- What is queued behind the byte that ends an operation stays queued (R152). -/
theorem State.finish_receive (s : State) (r : Response) : andThen (s.finish r) (receive s.rxq) = s.finish r := by
  cases h : s.finish r with
  | next t =>
    obtain ⟨hp, -, -, -, -, hq, -⟩ := State.finish_frame h
    rw [andThen_next, receive_not_waiting (by simp [hp]), State.setRxq_of_eq hq]
  | fault f => rfl
  | refused f => rfl

/-- A reception whose first byte ends the operation. -/
theorem receive_finish {b : Byte} {rest : List Byte} {s : State} {r : Response} (hp : s.phase = .requestSent)
    (hr : s.op.response = some r) (hc : s.count + 1 = r.n) (he : s.esc = false ∨ unesc b = none) :
    receive (b :: rest) s = ((s.setRxq rest).storeByte b).finish r := by
  rw [receive_cons_waiting hp, takeByte_finish hr hc he]
  exact State.finish_receive _ r

/-- Settles O37: the 7D is stored whatever ESC is, and ends the operation. -/
theorem escapeRowCompletesTheFrameOnItsFirstByte : Obligations.EscapeRowCompletesTheFrameOnItsFirstByte := by
  intro s n k i c hw hc hq hbs
  obtain ⟨t, ht⟩ := State.finish_next hw.2 ((s.setRxq [c]).storeByte escByte)
  obtain ⟨hp, hop, he, hcount, hbuf, hrxq, hlog, hev, href⟩ := State.finish_frame ht
  refine ⟨t, ?_, hp, hcount.trans hc, he, hbuf, hrxq, hop, hlog, hev, href⟩
  rw [exec_of_deliveredBytes hbs, deliver, State.sensorAppend, receive_setRxq, hq, ← ht]
  exact receive_finish hw.1 hw.2 hc (.inr unesc_escByte)

end Sys2Proof.Machine
end

/-! Proofs: reception as a whole (R120, R154, R159). -/
section
namespace Sys2Proof.Machine

/-- The framer `s` after the raw bytes `r` and before completion, where nothing was held before: RXBUF begins with their
reversal, COUNT is its length, ESC says whether it ends in an unpaired 7D (R120). -/
def State.taken (s : State) (r : List Byte) : State :=
  { s with rxbuf := memWrite s.rxbuf 0 (reverseStuffing r), count := (reverseStuffing r).length, esc := endsUnpaired r }

theorem State.taken_nil {s : State} (hc : s.count = 0) (he : s.esc = false) : s.taken [] = s := by
  cases s; cases hc; cases he; rfl

theorem memWrite_concat {n : Nat} (l : List Byte) (b : Byte) (file : Vector Byte n) (a : Nat) :
    memWrite file a (l ++ [b]) = (memWrite file a l).setIfInBounds (a + l.length) b := by
  induction l generalizing file a with
  | nil => rfl
  | cons c l ih =>
    rw [List.cons_append, memWrite, ih, List.length_cons, Nat.add_right_comm, Nat.add_assoc]; rfl

/-- A byte that completes no escape sequence is stored (R119, second branch). -/
theorem State.storeByte_taken {r : List Byte} {b : Byte} (h : endsUnpaired r = false ∨ unesc b = none) (s : State) :
    (s.taken r).storeByte b = s.taken (r ++ [b]) := by
  have hr := reverseStuffing_concat_append h
  have he : endsUnpaired (r ++ [b]) = escAfter b :=
    endsUnpaired_append (h.imp_right fun hb _ _ hc => (List.cons.inj hc).1 ▸ hb) (List.cons_ne_nil b [])
  simp only [State.taken, State.storeByte, hr, he, memWrite_concat, Nat.zero_add, List.length_append,
    List.length_singleton]

/-- A byte that completes one replaces the 7D (R119, first branch). -/
theorem State.replaceLast_taken {r : List Byte} {b o : Byte} (hr : endsUnpaired r = true) (hb : unesc b = some o)
    (s : State) : (s.taken r).replaceLast o = s.taken (r ++ [b]) := by
  obtain ⟨l, hl, hs⟩ := reverseStuffing_concat_replace hr hb
  have he : endsUnpaired (r ++ [b]) = false := endsUnpaired_append_split hr hb []
  simp only [State.taken, State.replaceLast, hl, hs, he, memWrite_concat, Nat.zero_add, List.length_append,
    List.length_singleton, Nat.add_sub_cancel, Vector.setIfInBounds_setIfInBounds]

/-- One byte before completion (R120). -/
theorem takeByte_taken {s : State} {resp : Response} {r : List Byte} {b : Byte} (hr : s.op.response = some resp)
    (hlen : (reverseStuffing (r ++ [b])).length < resp.n) (rest : List Byte) :
    takeByte b rest (s.taken r) = .next ((s.setRxq rest).taken (r ++ [b])) := by
  by_cases h : endsUnpaired r = false ∨ unesc b = none
  · rw [reverseStuffing_concat_append h, List.length_append] at hlen
    rw [takeByte_store (s := s.taken r) hr hlen h, ← State.storeByte_taken h]; rfl
  · simp only [not_or, Bool.not_eq_false] at h
    obtain ⟨o, ho⟩ := Option.ne_none_iff_exists'.1 h.2
    obtain ⟨l, hl, hs⟩ := reverseStuffing_concat_replace h.1 ho
    have hcount : (s.taken r).count = l.length + 1 := by rw [State.taken, hl, List.length_append]; rfl
    rw [hs, List.length_append] at hlen
    rw [takeByte_replace (s := s.taken r) hr (hcount ▸ hlen) h.1 ho (by omega), ← State.replaceLast_taken h.1 ho]; rfl

/-- A reception that does not complete goes on from what has been taken (R120). -/
theorem receive_taken {s : State} {resp : Response} {q r : List Byte} (hp : s.phase = .requestSent)
    (hr : s.op.response = some resp) (hlen : (reverseStuffing (r ++ q)).length < resp.n) :
    receive q (s.taken r) = .next ((s.setRxq []).taken (r ++ q)) := by
  induction q generalizing s r with
  | nil => rw [List.append_nil]; rfl
  | cons b q ih =>
    rw [List.append_cons] at hlen ⊢
    have hfirst := (length_reverseStuffing_le_append (r ++ [b]) q).trans_lt hlen
    rw [receive_cons_waiting (s := s.taken r) hp, takeByte_taken hr hfirst, andThen_next,
      ih (s := s.setRxq q) hp hr hlen]; rfl

section
variable {s : State} {resp : Response} (hp : s.phase = .requestSent) (hr : s.op.response = some resp) (hc : s.count = 0)
  (he : s.esc = false)
include hp hr hc he

/-- A reception that does not complete, from a framer that holds nothing. -/
theorem receive_short {q : List Byte} (hlen : (reverseStuffing q).length < resp.n) :
    receive q s = .next ((s.setRxq []).taken q) := by
  simpa only [State.taken_nil hc he, List.nil_append] using receive_taken (r := []) hp hr hlen

/-- A reception that completes on the byte `b` (R152): the rest stays queued. -/
theorem receive_complete {r : List Byte} {b : Byte} (hlen : (reverseStuffing r).length + 1 = resp.n)
    (hb : endsUnpaired r = false ∨ unesc b = none) (rest : List Byte) :
    receive (r ++ b :: rest) s = ((s.setRxq rest).taken (r ++ [b])).finish resp := by
  rw [receive_append, receive_short hp hr hc he (by omega), andThen_next]
  have := receive_finish (s := (s.setRxq (b :: rest)).taken r) (rest := rest) hp hr hlen hb
  rw [← State.storeByte_taken hb]
  exact this

end

/-- The framer `s` with the logical bytes `f` of a whole response in its buffer. -/
def State.holding (s : State) (f : List Byte) : State :=
  { s with rxbuf := memWrite s.rxbuf 0 f, count := f.length }

/-- The end of an operation does not look at ESC, which it clears. -/
theorem State.finish_taken (s : State) (resp : Response) (r : List Byte) :
    (s.taken r).finish resp = (s.holding (reverseStuffing r)).finish resp := rfl

/-- A whole response that reaches a framer with nothing received ends the operation (R162 to R165). -/
theorem deliver_wire {s : State} {resp : Response} {f : List Byte} (hp : s.phase = .requestSent)
    (hr : s.op.response = some resp) (hc : s.count = 0) (he : s.esc = false) (hq : s.rxq = [])
    (hf : f.length = resp.n) : deliver (wire f) s = (s.holding f).finish resp := by
  have hle := response_le hr
  obtain ⟨i, b, rfl⟩ : ∃ i b, f = i ++ [b] := by
    rcases List.eq_nil_or_concat' f with rfl | h
    · simp at hf; omega
    · exact h
  have hi : i ≠ [] := by rintro rfl; simp at hf; omega
  rw [List.length_append, List.length_singleton] at hf
  have hend : endsUnpaired (wireInit i) = false ∨ unesc b = none := by
    by_contra hsplit
    simp only [not_or, Bool.not_eq_false] at hsplit
    obtain ⟨o, ho⟩ := Option.ne_none_iff_exists'.1 hsplit.2
    obtain ⟨l, hl, hs⟩ := reverseStuffing_concat_replace hsplit.1 ho
    have := congrArg List.length ((reverseStuffing_wireInit_append hi [b]).symm.trans hs)
    rw [reverseStuffing_wireInit] at hl
    simp [hl, reverseStuffing] at this
  have hcomplete := receive_complete hp hr hc he (by rw [reverseStuffing_wireInit]; exact hf) hend []
  rw [deliver, State.sensorAppend, receive_setRxq, hq, List.nil_append, wire_concat hi, hcomplete, State.finish_taken,
    ← wire_concat hi, reverseStuffing_wire, State.setRxq_of_eq hq]

theorem toList_holding {s : State} {f : List Byte} (h : f.length ≤ 47) :
    (s.holding f).rxbuf.toList = f ++ s.rxbuf.toList.drop f.length := by
  rw [State.holding, memWrite_toList _ _ _ (by omega), Nat.zero_add]; rfl

theorem getElem_holding {s : State} {f : List Byte} {j : Nat} (h : f.length ≤ 47) (hj : j < f.length) :
    (s.holding f).rxbuf[j] = f[j] := by
  rw [← Vector.getElem_toList (by simp; omega), List.getElem_of_eq (toList_holding h), List.getElem_append_left hj]

/-- Settles O44: what has been taken before completion, from nothing. -/
theorem bufferHoldsTheReversalOfEverythingTaken : Obligations.BufferHoldsTheReversalOfEverythingTaken := by
  intro s n k r hw hc he hq hlen
  have hle := response_le hw.2
  refine ⟨_, toList_holding (s := s) (f := reverseStuffing r) (by simp at hle; omega), ?_⟩
  rw [deliver, State.sensorAppend, receive_setRxq, hq, List.nil_append, receive_short hw.1 hw.2 hc he hlen]
  rfl

/-- Settles O38: the 47 bytes are the buffer, and its ten words the result. -/
theorem measurementResponseGivesItsTenWords : Obligations.MeasurementResponseGivesItsTenWords := by
  intro s f hp hop hc he hq hf
  have hr : s.op.response = some ⟨47, .measurement⟩ := by rw [hop]; rfl
  obtain ⟨m, hm, hwords⟩ := (s.holding f).finish_measurement
  have hbuf : memWrite s.rxbuf 0 f = Vector.mk f.toArray (by simpa using hf) := by
    rw [← Vector.toList_inj, toList_memWrite_all hf]; rfl
  refine ⟨_, m, (deliver_wire hp hr hc he hq hf).trans hm, ?_, fun i => ?_⟩
  · simp only [State.holding, hbuf, hf]
  · rw [hwords i, getElem_holding hf.le (by omega), getElem_holding hf.le (by omega), getElem_holding hf.le (by omega),
      getElem_holding hf.le (by omega)]

/-- Settles O39: the 24 bytes begin the buffer, and the payload's characters decide the outcome. -/
theorem deviceInfoResponseGivesItsStringOrDecodeError : Obligations.DeviceInfoResponseGivesItsStringOrDecodeError := by
  intro s f hp hop hc he hq hf
  have hr : s.op.response = some ⟨24, .ascii⟩ := by rcases hop with hop | hop <;> rw [hop] <;> rfl
  have hrow : exec (.respDeviceInfo f) s = (s.holding f).finish ⟨24, .ascii⟩ := deliver_wire hp hr hc he hq hf
  have hget (k : Fin 17) : (s.holding f).rxbuf[5 + k.val] = f[5 + k.val] := getElem_holding (by omega) (by omega)
  refine ⟨(s.holding f).rxbuf, by rw [toList_holding (by omega), hf], fun h => ?_, fun ⟨k, hk⟩ => ?_⟩
  · rw [hrow, State.finish_string fun k => by rw [hget]; exact h k]
    simp only [hget]
    simp only [State.holding, hf]
  · rw [hrow, State.finish_decodeError ⟨k, by rw [hget]; exact hk⟩]
    simp only [State.holding, hf]

/-- Settles O40: the 14 bytes begin the buffer, and bytes 5 and 6 are the version. -/
theorem firmwareResponseGivesItsVersion : Obligations.FirmwareResponseGivesItsVersion := by
  intro s f hp hop hc he hq hf
  have hr : s.op.response = some ⟨14, .firmware⟩ := by rw [hop]; rfl
  refine ⟨(s.holding f).rxbuf, by rw [toList_holding (by omega), hf], ?_⟩
  rw [show exec (.respFirmware f) s = _ from deliver_wire hp hr hc he hq hf, State.finish_version,
    getElem_holding (by omega) (by omega), getElem_holding (by omega) (by omega)]
  simp only [State.holding, hf]

/-- The results of two framers are the same: RKIND, FALLBACK and every result register. -/
def SameResults (t u : State) : Prop :=
  t.rkind = u.rkind ∧ t.fallback = u.fallback ∧ t.meas = u.meas ∧ t.str = u.str ∧ t.strlen = u.strlen ∧
    t.vmaj = u.vmaj ∧ t.vmin = u.vmin

/-- DecodePayload writes the results from its payload and the results before (R127). -/
theorem decodePayload_sameResults {k : Kind} {p : List Byte} {s s' t u : State}
    (ht : decodePayload k p s = .next t) (hu : decodePayload k p s' = .next u) (h : SameResults s s') :
    SameResults t u := by
  obtain ⟨hk, hf, hm, hs, hl, hj, hn⟩ := h
  unfold decodePayload at ht hu
  cases k with
  | measurement => cases ht; cases hu; exact ⟨rfl, rfl, rfl, hs, hl, hj, hn⟩
  | ascii =>
    cases hd : decodeAscii p with
    | none => simp only [hd] at ht hu; cases ht; cases hu; exact ⟨rfl, hf, hm, hs, hl, hj, hn⟩
    | some str =>
      simp only [hd] at ht hu
      split_ifs at ht hu
      cases ht; cases hu
      exact ⟨rfl, hf, hm, congrArg (memWrite · 0 str) hs, rfl, hj, hn⟩
  | firmware =>
    cases hd : decodeFirmware p with
    | none => simp only [hd] at ht hu; cases ht; cases hu; exact ⟨rfl, hf, hm, hs, hl, hj, hn⟩
    | some v => simp only [hd] at ht hu; cases ht; cases hu; exact ⟨rfl, hf, hm, hs, hl, rfl, rfl⟩

/-- The payload of a buffer that holds a response is the response's payload. -/
theorem payload_holding {s : State} {f : List Byte} (h : f.length ≤ 47) :
    extractPayload (memRead (s.holding f).rxbuf 0 f.length) = extractPayload f := by
  rw [memRead, toList_holding h, List.drop_zero, List.take_left]

/-- A response row with header, payload and trailer decodes the payload and ends the operation. -/
theorem exec_response {s t : State} {n : Nat} {k : Kind} {i : Instr} {h p e : List Byte} (hw : s.Waits n k)
    (hc : s.count = 0) (he : s.esc = false) (hq : s.rxq = []) (hh : h.length = 5) (hle : e.length = 2)
    (hn : p.length + 7 = n) (hi : deliveredBytes i = some (wire (h ++ p ++ e))) (ht : exec i s = .next t) :
    ∃ u, decodePayload k p (s.holding (h ++ p ++ e)).clearEsc = .next u ∧ t = u.setPhase .responseComplete := by
  have hn47 : n ≤ 47 := (response_le hw.2).2
  have hf : (h ++ p ++ e).length = n := by simp only [List.length_append]; omega
  have hp : extractPayload (memRead (s.holding (h ++ p ++ e)).rxbuf 0 n) = p := by
    rw [← hf, payload_holding (by omega), extractPayload_append hh hle]
  rw [exec_of_deliveredBytes hi, deliver_wire hw.1 hw.2 hc he hq hf, State.finish, hp] at ht
  obtain ⟨u, hu, hphase⟩ := andThen_eq_next.1 ht
  exact ⟨u, hu, (Host.Outcome.next.inj hphase).symm⟩

/-- Settles O50: both rows decode the same payload, and nothing else of them. -/
theorem headerAndTrailerHaveNoPartInTheResult : Obligations.HeaderAndTrailerHaveNoPartInTheResult := by
  intro s t u n k i j h h' p e e' hw hc he hq hh hh' hle hle' hn hi hj ht hu
  obtain ⟨t', ht', rfl⟩ := exec_response hw hc he hq hh hle hn hi ht
  obtain ⟨u', hu', rfl⟩ := exec_response hw hc he hq hh' hle' hn hj hu
  have hsame : SameResults t' u' := decodePayload_sameResults ht' hu' ⟨rfl, rfl, rfl, rfl, rfl, rfl, rfl⟩
  exact ⟨rfl, rfl, hsame⟩

end Sys2Proof.Machine
end

/-! Proofs: whole operations from request to result (R162 to R165, R153). -/
section
namespace Sys2Proof.Machine

/-- A run can be cut in two. -/
theorem run_add {k : Nat} {s t : State} (h : Host.Core.run core k s = .next t) (j : Nat) :
    Host.Core.run core (k + j) s = Host.Core.run core j t := by
  induction k generalizing s with
  | zero => cases h; rw [Nat.zero_add]
  | succ k ih =>
    rw [Nat.add_right_comm]
    obtain ⟨u, hu, ht⟩ := andThen_eq_next.1 ((run_succ k s).symm.trans h)
    exact (run_of_step hu _).trans (ih ht)

/-- The state in which a reading operation's response is awaited, `q` sent by the sensor (R155, R46). -/
def State.awaiting (s : State) (op : Op) (f q : List Byte) : State := (s.issued op .requestSent f).setRxq q

/-- The schedule of a read from its request on: the Issue and the sensor's append, each one step. -/
theorem run_request {s : State} {op : Op} {resp : Response} {f q : List Byte} {es : List Event}
    (hr : op.response = some resp) (hp : s.phase ≠ .requestSent)
    (hf : buildFrame (descriptor op).cmd (descriptor op).subcommand (descriptor op).args = some f)
    (he : s.events = .issue op.code :: .sensorAppend q :: es) (j : Nat) :
    Host.Core.run core (j + 2) s = Host.Core.run core j ((s.awaiting op f q).setEvents es) := by
  have hphase : phaseAfter op = .requestSent := if_pos (Option.isSome_iff_exists.2 ⟨resp, hr⟩)
  have hissue : step s = .next ((s.issued op .requestSent f).setEvents (.sensorAppend q :: es)) := by
    rw [step_cons he, ← hphase]
    exact exec_accepted (s := s.setEvents _) (hostCode_instrOfCode op.code) hp hf
  exact (run_of_step hissue (j + 1)).trans (run_of_step (step_sensorAppend _ q es) j)

/-- A read that completes ends, after its `k` RxByte events, as the end of the operation on the reversal of the first
`k` raw bytes; the rest stays queued (R159). -/
theorem run_read {s t : State} {op : Op} {resp : Response} {f q : List Byte} {k : Nat} {more : List Event}
    (hr : op.response = some resp) (hp : s.phase ≠ .requestSent)
    (hf : buildFrame (descriptor op).cmd (descriptor op).subcommand (descriptor op).args = some f)
    (hk : rawBytesFor q resp.n = some k)
    (he : s.events = .issue op.code :: .sensorAppend q :: (List.replicate k .rxByte ++ more))
    (ht : ((s.awaiting op f (q.drop k)).holding (reverseStuffing (q.take k))).finish resp = .next t) :
    Host.Core.run core (k + 2) s = .next (t.setEvents more) := by
  have hn : 0 < resp.n := by have := response_le hr; omega
  obtain ⟨hkq, -, -⟩ := rawBytesFor_eq_some hn hk
  obtain ⟨r, b, hrb, hlen, hb⟩ := take_rawBytesFor hn hk
  have hreceive : receive q (s.awaiting op f q) = .next t := by
    have hq : r ++ b :: q.drop k = q := by rw [List.append_cons, ← hrb, List.take_append_drop]
    have hcomplete := receive_complete (s := s.awaiting op f q) rfl hr rfl rfl hlen hb (q.drop k)
    rw [hq, ← hrb] at hcomplete
    exact hcomplete.trans ht
  obtain ⟨k', hk', hdrop, -, -, hrun⟩ := receive_is_rxByte_events hreceive
  obtain ⟨-, -, -, -, -, hq, -⟩ := State.finish_frame ht
  obtain rfl : k' = k := by
    have := congrArg List.length (hdrop.symm.trans hq)
    simp only [State.holding, State.awaiting, State.setRxq, List.length_drop] at this
    omega
  rw [run_request hr hp hf he]
  exact hrun more

/-- Settles O46: the ten words of the 47 bytes held. -/
theorem readValuesFromRequestToResult : Obligations.ReadValuesFromRequestToResult := by
  intro s q k more hp hk he
  obtain ⟨-, hlen, -⟩ := rawBytesFor_eq_some (by omega) hk
  obtain ⟨m, hm, hwords⟩ := ((s.awaiting .readValues [0x7E, 0x00, 0x03, 0x00, 0xFC, 0x7E] (q.drop k)).holding
    (reverseStuffing (q.take k))).finish_measurement
  refine ⟨_, m, run_read (op := .readValues) rfl hp rfl hk he hm, toList_memWrite_all hlen _, ?_, hwords⟩
  simp only [State.holding, State.awaiting, State.setEvents, State.setRxq, State.issued, hlen]

/-- What follows the logical bytes of a response in a buffer that was clear. -/
theorem toList_holding_awaiting {s : State} {op : Op} {f q l : List Byte} (h : l.length ≤ 47) :
    ((s.awaiting op f q).holding l).rxbuf.toList = l ++ List.replicate (47 - l.length) 0 := by
  rw [toList_holding h]
  show l ++ (Vector.replicate 47 (0 : Byte)).toList.drop l.length = _
  rw [Vector.toList_replicate, List.drop_replicate]

/-- Settles O47: the payload's characters decide the outcome. -/
theorem identificationReadFromRequestToResult : Obligations.IdentificationReadFromRequestToResult := by
  intro s op f q k more hop hp hk he
  obtain ⟨-, hlen, -⟩ := rawBytesFor_eq_some (by omega) hk
  have hr : op.response = some ⟨24, .ascii⟩ := by rcases hop with ⟨rfl, -⟩ | ⟨rfl, -⟩ <;> rfl
  have hf : buildFrame (descriptor op).cmd (descriptor op).subcommand (descriptor op).args = some f := by
    rcases hop with ⟨rfl, rfl⟩ | ⟨rfl, rfl⟩ <;> rfl
  have hbuf := toList_holding_awaiting (s := s) (op := op) (f := f) (q := q.drop k) (l := reverseStuffing (q.take k))
    (by omega)
  rw [hlen] at hbuf
  obtain ⟨t, ht⟩ := State.finish_next hr ((s.awaiting op f (q.drop k)).holding (reverseStuffing (q.take k)))
  obtain ⟨-, -, -, -, htbuf, -⟩ := State.finish_frame ht
  refine ⟨_, run_read hr hp hf hk he ht, (congrArg Vector.toList htbuf).trans hbuf, fun h => ?_, fun h => ?_⟩
  · simp only [State.setEvents, htbuf] at h
    cases (State.finish_string h).symm.trans ht
    simp only [State.holding, State.awaiting, State.setEvents, State.setRxq, State.issued, hlen]
  · simp only [State.setEvents, htbuf] at h
    cases (State.finish_decodeError h).symm.trans ht
    simp only [State.holding, State.awaiting, State.setEvents, State.setRxq, State.issued, hlen]

/-- Settles O48: VMAJ and VMIN are logical bytes 5 and 6. -/
theorem firmwareReadFromRequestToResult : Obligations.FirmwareReadFromRequestToResult := by
  intro s q k more hp hk he
  obtain ⟨-, hlen, -⟩ := rawBytesFor_eq_some (by omega) hk
  have hbuf := toList_holding_awaiting (s := s) (op := .readFirmwareVersion) (f := [0x7E, 0x00, 0xD1, 0x00, 0x2E, 0x7E])
    (q := q.drop k) (l := reverseStuffing (q.take k)) (by omega)
  rw [hlen] at hbuf
  refine ⟨_, run_read (op := .readFirmwareVersion) (f := [0x7E, 0x00, 0xD1, 0x00, 0x2E, 0x7E]) rfl hp rfl hk he
    (State.finish_version _), hbuf, ?_⟩
  simp only [State.holding, State.awaiting, State.setEvents, State.setRxq, State.issued, hlen]

/-- Settles O49: all of it is taken, and the Timeout discards what was. -/
theorem shortResponseEndsInTimeoutWithoutPartialData : Obligations.ShortResponseEndsInTimeoutWithoutPartialData := by
  intro s op resp f q more hp hr hf hk he
  have hlen : (reverseStuffing q).length < resp.n := rawBytesFor_eq_none (by have := response_le hr; omega) hk
  have hreceive := receive_short (s := s.awaiting op f q) rfl hr rfl rfl hlen
  obtain ⟨k, hkq, hdrop, -, -, hrun⟩ := receive_is_rxByte_events hreceive
  obtain rfl : k = q.length := le_antisymm hkq (List.drop_eq_nil_iff.1 hdrop.symm)
  have htimeout : step ((((s.awaiting op f q).setRxq []).taken q).setEvents (.rxTimeout :: more)) =
      .next ({ s.issued op .timedOut f with rkind := .timeout, events := more } : State) := rfl
  rw [show q.length + 3 = q.length + 1 + 2 from rfl, run_request hr hp hf he]
  exact (run_add (hrun (.rxTimeout :: more)) 1).trans (run_of_step htimeout 0)

end Sys2Proof.Machine
end
